-- ==== Sys2Proof/Word.lean ====
section
/-! DEFINITION. The word types of the A48: bytes on the links, sequence numbers and the configuration generation. -/

namespace Sys2Proof

/-- One byte on a serial link (10 R168). -/
abbrev Byte := BitVec 8

/-- A journal sequence number as the links carry it, 32 bits (08 R142). -/
abbrev Seq := BitVec 32

/-- The running check value of a frame, 16 bits (10 R169). -/
abbrev Crc := BitVec 16

end Sys2Proof
end

