-- ==== Sys2Proof/Syntax.lean ====
section
/-! DEFINITION. The commands of the A48: one constructor of `Instr` for each row of spec/opcode_table.json. -/

namespace Sys2Proof

/-- A point number, 0–47 (00, Notational Conventions). -/
abbrev Point := Fin 48

/-- A group number, 0–7 (00, Notational Conventions). -/
abbrev Group := Fin 8

/-- The two serial links (10 R167). -/
inductive Link where
  | a
  | b
  deriving DecidableEq, Repr

/-- Who causes a change (00 Table 0-1, 08 Table 8-1). -/
inductive Source where
  | panel
  | linkA
  | linkB
  | part
  deriving DecidableEq, Repr

/-- The four panel pushbutton lines (05 R90). -/
inductive PanelLine where
  | ack
  | silence
  | reset
  | test
  deriving DecidableEq, Repr

/-- The two sources of cold reset (11 R187). -/
inductive ResetCause where
  | power
  | line
  deriving DecidableEq, Repr

/-- The part's steps. A request's tag and body stand in the place of the reply queue that its frame occupies (10 R173),
so a request command names its link alone: it is the step in which the link unit takes that request (10 R174; log 2). -/
inductive Instr where
  /-- A reset ends (11 R187): the source it began with, and the levels of the RATE1 and RATE0 straps at its end (10 R167). -/
  | coldReset (cause : ResetCause) (rate1 rate0 : Bool)
  /-- Pin INp goes to the level given, active being logic high (02 R22, R23). -/
  | inputLineChange (p : Point) (active : Bool)
  | filteredTransition (p : Point)
  | onDelayExpiry (p : Point)
  | offDelayExpiry (p : Point)
  | accumulationExpiry (p : Point)
  | forgetTimerExpiry (p : Point)
  | restartRaise (p : Point)
  | realertExpiry (p : Point)
  | chatterWindowExpiry (p : Point)
  | restoreTimerExpiry (p : Point)
  | patternCycleWrap
  | dayRollover
  /-- A panel line goes to the level given (05 R90). -/
  | panelLineChange (line : PanelLine) (active : Bool)
  | panelFilteredTransition (line : PanelLine)
  | panelPressBegin
  /-- The next event of the ACK action in the slot of the source (05 R95). -/
  | ackWalkEvent (src : Source)
  /-- The next group of the RESET action in the slot of the source (05 R97). -/
  | resetGroupExamine (src : Source)
  | resetMemberEvent (src : Source)
  | firstOutClearing (src : Source)
  | lampTestHostExpiry
  | leaseExpiry
  | retransmissionExpiry (l : Link)
  /-- A received character: its 8 data bits and whether its stop bit stood at the right level (10 R168). -/
  | byteArrival (l : Link) (data : Byte) (stopGood : Bool)
  | interByteTimeout (l : Link)
  | transmitEnd (l : Link)
  | hello (l : Link)
  | bye (l : Link)
  | unknownKindRequest (l : Link)
  | claim (l : Link)
  | release (l : Link)
  | restart (l : Link)
  | readStatus (l : Link)
  | defineGroup (l : Link)
  | undefineGroup (l : Link)
  | definePoint (l : Link)
  | undefinePoint (l : Link)
  | setServiceOut (l : Link)
  | setServiceIn (l : Link)
  | restore (l : Link)
  | setTime (l : Link)
  | ack (l : Link)
  | reset (l : Link)
  | silence (l : Link)
  | lampTest (l : Link)
  | readPoint (l : Link)
  | readGroup (l : Link)
  | readList (l : Link)
  | readJournal (l : Link)
  | subscribe (l : Link)
  | unsubscribe (l : Link)
  /-- A complete CONFIRM frame reaches the link unit, with its body (10 R173). -/
  | confirm (l : Link) (body : List Byte)
  /-- The supply is removed, or RSTN goes active while power is present (11 R187). -/
  | resetAsserted (cause : ResetCause)
  deriving DecidableEq, Repr

end Sys2Proof
end

