-- ==== Sys2Proof/Decode.lean ====
section
/-! DEFINITION. Reading a command from a word of the table. No row of spec/opcode_table.json gives bits, so no word spells a
command (log 21). -/

namespace Sys2Proof

/-- The command that `nbits` bits of `w` spell by the table's bits: none, since no row gives bits (log 21). -/
def decodeTableWord (_nbits _w : Nat) : Option Instr := none

end Sys2Proof
end

