-- ==== Sys2Proof/Config.lean ====
section
/-! DEFINITION. What the spec fixes as a number, and the one free value of the model. -/

namespace Sys2Proof.Config

/-- FREE VALUE (log 3): which of the part's own steps that are due together is taken first, but for the wraps and the host timer's
expiry that a tick queues ahead of them (log 32). The spec lets them be taken in either order (02 R35, 08 R143); nothing constrains
this function. -/
opaque eventChoice : Nat → Nat

/-- The filter time of the four panel lines, in ms (05 R90). -/
def panelFilterMs : Nat := 20

/-- The length of the authority lease, in ms (11 R181). -/
def leaseMs : Nat := 30000

/-- The length of the retransmission timer, in ms (09 R152). -/
def retransmissionMs : Nat := 500

/-- The inter-byte timeout, in ms (10 R172). -/
def interByteMs : Nat := 50

/-- The most records the journal holds (08 R143). -/
def journalCapacity : Nat := 1024

/-- The places of a reply queue (10 R173). -/
def replyPlaces : Nat := 4

/-- The most records of one delivery in flight (09 R152). -/
def deliveryWindow : Nat := 4

/-- The retry count at which an expiry makes the delivery silent (09 R162). -/
def lastRetry : Nat := 4

/-- The last millisecond of a day (08 R136). -/
def lastMsOfDay : Nat := 86399999

/-- The last cycle position of the pattern generator (06 R108). -/
def lastCycle : Nat := 999

/-- The largest LEN of a frame (10 R169). -/
def maxBody : Nat := 240

end Sys2Proof.Config
end

