-- ==== Sys2Proof/Machine/State.lean ====
section
/-! DEFINITION. The state of the A48, as plain data: every item of state the spec gives its blocks, the reasons a step can
stop, and the state at the end of a cold reset from power-on. -/

namespace Sys2Proof.Machine

/-- The A48 has no machine fault (INVENTORY, Faults): a frame it cannot trust is discarded (10 R171) and a request it cannot
carry out is answered with a result code (10 R175). No meaning raises a fault. -/
inductive Fault where
  deriving DecidableEq, Repr

/-- Why a command has no meaning. -/
inductive Refusal where
  /-- Answered by `exec` for a command that has no meaning yet; no arm of this model answers it. Safe: nothing is claimed. -/
  | notModelled (mnemonic : String)
  deriving DecidableEq, Repr

/-! ### Configuration tables (01) -/

/-- The point phases (00 Table 0-3). -/
inductive Phase where
  | undefined
  | outOfService
  | normal
  | alert
  | acked
  | clearedUnacked
  | waitReset
  | ringback
  | suppressed
  deriving DecidableEq, Repr

/-- The sequence types (01 Table 1-1). -/
inductive SequenceType where
  | auto
  | manual
  | ringback
  deriving DecidableEq, Repr

/-- The contact senses (01 Table 1-2): NO is abnormal when active, NC when inactive. -/
inductive Sense where
  | normallyOpen
  | normallyClosed
  deriving DecidableEq, Repr

/-- The delay modes (01 Table 1-2). -/
inductive DelayMode where
  | continuous
  | accumulating
  deriving DecidableEq, Repr

/-- The fields of a defined group (01 Table 1-1). The operator sources, a subset of PANEL, LINK_A, LINK_B, are three flags. -/
structure GroupDef where
  sequence : SequenceType
  firstOutEnabled : Bool
  audible : Bool
  permitsPanel : Bool
  permitsA : Bool
  permitsB : Bool
  realertMinutes : Nat
  deriving DecidableEq, Repr

/-- The fields of a defined point (01 Table 1-2). The delays are the counts of 10 ms the part holds. -/
structure PointDef where
  group : Group
  sense : Sense
  filterMs : Nat
  onDelay : Nat
  offDelay : Nat
  mode : DelayMode
  chatterLimit : Nat
  chatterWindow : Nat
  label : List Byte
  deriving DecidableEq, Repr

/-- One group: its definition record (01 R1) and its first-out point, which the alarm list holds (04 R77). -/
structure GroupState where
  definition : Option GroupDef
  firstOut : Option Point
  deriving DecidableEq, Repr

/-! ### Input, qualification, chatter and phase of a point (02, 03, 07) -/

/-- A sense-corrected level (02 R22). -/
inductive Level where
  | normal
  | abnormal
  deriving DecidableEq, Repr

/-- The qualified condition (02 R26). -/
inductive Qualified where
  | normalQ
  | abnormalQ
  deriving DecidableEq, Repr

/-- The delay state (02 R26, Table 2-3): idle, or the timer that runs, with its elapsed ms. `accumulating` has no timer of its
own: the accumulated time grows. -/
inductive Delay where
  | idle
  | onDelay (elapsed : Nat)
  | accumulating
  | offDelay (elapsed : Nat)
  | forget (elapsed : Nat)
  deriving DecidableEq, Repr

/-- All that the blocks hold for one point. For an undefined point the runtime fields stand at their idle values (log 10). -/
structure PointState where
  /-- The level of pin INp: true is logic high, active (02 R22). -/
  line : Bool
  definition : Option PointDef
  phase : Phase
  filtered : Level
  filterRun : Option Nat
  qualified : Qualified
  delay : Delay
  accumulated : Nat
  /-- A RAISE that a warm restart left due (02 R42; log 12). -/
  restartRaise : Bool
  raiseCount : Nat
  window : Option Nat
  restore : Option Nat
  realert : Option Nat
  /-- The output unit's copy of the phase (06 R110). -/
  shownPhase : Phase
  /-- The output unit's copy of the first-out mark (06 R110). -/
  shownMark : Bool
  deriving DecidableEq, Repr

/-! ### Time base, alarm list, journal (04, 08) -/

/-- The time base, and the stamp it gives (08 R136): day, millisecond of day, time-set flag. -/
structure Stamp where
  day : BitVec 16
  ms : Nat
  isSet : Bool
  deriving DecidableEq, Repr

/-- One entry of the alarm list (04 Table 4-1). -/
structure Entry where
  point : Point
  group : Group
  phase : Phase
  firstOut : Bool
  raiseCount : Nat
  openSeq : Seq
  openTime : Stamp
  ackedBy : Option Source
  ackedAt : Option Stamp
  deriving DecidableEq, Repr

/-- The cause a START record carries (08 Table 8-2). -/
inductive StartCause where
  | power
  | line
  | restart
  deriving DecidableEq, Repr

/-- The cause a FIRST_OUT_CLEARED record carries (08 Table 8-2). -/
inductive ClearCause where
  | reset
  | gone
  deriving DecidableEq, Repr

/-- The cause a RESTORED record carries (08 Table 8-2). -/
inductive RestoreCause where
  | auto
  | request
  deriving DecidableEq, Repr

/-- The action an AUTHORITY record carries (08 Table 8-2). -/
inductive AuthorityAction where
  | taken
  | released
  | expired
  | dropped
  deriving DecidableEq, Repr

/-- The action a SESSION record carries, CLOSED with its cause (08 Table 8-2). -/
inductive SessionAction where
  | opened
  | closedBye
  | closedHello
  deriving DecidableEq, Repr

/-- The kind of a record with its detail (08 Table 8-2). DEFINED and UNDEFINED carry a phase for a point, none for a group. -/
inductive RecordKind where
  | start (cause : StartCause)
  | raised (phase : Phase) (count : Nat) (firstOut : Bool)
  | cleared (phase : Phase)
  | acked (phase : Phase)
  | realert (phase : Phase)
  | resetPoint (phase : Phase)
  | firstOutCleared (cause : ClearCause)
  | silenced (horn tone : Bool)
  | suppressed (phase : Phase)
  | restored (phase : Phase) (cause : RestoreCause)
  | serviceOut (phase : Phase)
  | serviceIn (phase : Phase)
  | defined (phase : Option Phase) (generation : BitVec 32)
  | undefined (phase : Option Phase) (generation : BitVec 32)
  | timeSet (previous : Stamp)
  | lampTestOn
  | lampTestOff
  | authority (action : AuthorityAction) (link : Link)
  | session (action : SessionAction) (link : Link)
  | deliverySilent (link : Link)
  deriving DecidableEq, Repr

/-- One journal record (08 Table 8-1). -/
structure Record where
  seq : Seq
  stamp : Stamp
  kind : RecordKind
  source : Source
  point : Option Point
  group : Option Group
  deriving DecidableEq, Repr

/-! ### Operator unit (05) -/

/-- A panel line: the pin's level, the filtered level, the filter run with its elapsed ms (05 R90). -/
structure PanelInput where
  line : Bool
  filtered : Bool
  run : Option Nat
  deriving DecidableEq, Repr

/-- A press that waits (05 R92). -/
inductive Press where
  | ack
  | reset
  | silence
  deriving DecidableEq, Repr

/-- The two kinds of action that stand in a slot (05 R88). -/
inductive ActionKind where
  | ack
  | reset
  deriving DecidableEq, Repr

/-- The scope of an action (05 R93). -/
inductive Scope where
  | point (p : Point)
  | group (g : Group)
  | all
  deriving DecidableEq, Repr

/-- The position of an action (05 R88): what its walk reaches next. For a RESET: the examination of a group, one of its
members, the clearing of its first-out point (05 R97). -/
inductive WalkPos where
  | ackAt (p : Point)
  | examine (g : Group)
  | member (g : Group) (p : Point)
  | clearing (g : Group)
  deriving DecidableEq, Repr

/-- An action in progress (05 R88). -/
structure Action where
  kind : ActionKind
  source : Source
  scope : Scope
  pos : WalkPos
  pointsChanged : Nat
  marksCleared : Nat
  tag : Option Byte
  deriving DecidableEq, Repr

/-- The operator unit (05 R88, R90, R92). -/
structure OperatorUnit where
  ack : PanelInput
  silence : PanelInput
  reset : PanelInput
  test : PanelInput
  slotPanel : Option Action
  slotA : Option Action
  slotB : Option Action
  waiting : List Press
  deriving DecidableEq, Repr

/-! ### Output unit (06) -/

/-- The output unit but for its copies of the points (06 R108, R112, R117, R118). -/
structure OutputUnit where
  cycle : Nat
  horn : Bool
  tone : Bool
  testLevel : Bool
  hostTimer : Option Nat
  deriving DecidableEq, Repr

/-! ### Delivery units and link units (09, 10) -/

/-- The delivery states (09 Table 9-1). -/
inductive DeliveryState where
  | off
  | live
  | silent
  deriving DecidableEq, Repr

/-- One place of the offer list (09 R152). -/
structure Offer where
  seq : Seq
  isRepeat : Bool
  deriving DecidableEq, Repr

/-- The delivery unit of one link (09 R152). -/
structure Delivery where
  state : DeliveryState
  confirmed : Option Seq
  next : Option Seq
  retry : Nat
  timer : Option Nat
  offers : List Offer
  deriving DecidableEq, Repr

/-- The states of a receiver (10 R170). -/
inductive RxState where
  | hunt
  | length
  | header
  | body
  | check
  deriving DecidableEq, Repr

/-- The receiver of a link (10 R170, R172). `frame` holds the bytes received after SYNC. -/
structure Receiver where
  state : RxState
  crc : Crc
  due : Nat
  frame : List Byte
  timer : Option Nat
  deriving DecidableEq, Repr

/-- The result codes (10 Table 10-5). -/
inductive Result where
  | ok
  | nothing
  | noSession
  | unknownKind
  | badFormat
  | badArgument
  | notDefined
  | wrongState
  | notAuthority
  | heldByOther
  | notPermitted
  deriving DecidableEq, Repr

/-- A reply: the request's KIND and TAG, the result, the fields after it (10 R175). -/
structure Reply where
  kind : Byte
  tag : Byte
  result : Result
  fields : List Byte
  deriving DecidableEq, Repr

/-- An occupied place of the reply queue in its four conditions (10 R173). -/
inductive Place where
  | waiting (kind tag : Byte) (body : List Byte)
  | inProgress (kind tag : Byte)
  | ready (r : Reply)
  | onLine (r : Reply)
  deriving DecidableEq, Repr

/-- The frame on a transmit line: its bytes from SYNC to CHECK, and the ms it has been there. -/
structure TxFrame where
  bytes : List Byte
  elapsed : Nat
  deriving DecidableEq, Repr

/-- The chain of one link: link unit and delivery unit (00, Block Diagram). -/
structure Chain where
  rx : Receiver
  places : List Place
  line : Option TxFrame
  delivery : Delivery
  deriving DecidableEq, Repr

/-- The line rates (10 Table 10-1). -/
inductive LineRate where
  | b9600
  | b19200
  | b57600
  | b115200
  deriving DecidableEq, Repr

/-! ### Session unit (10, 11) -/

/-- The session unit (10 R177, 11 R181, R185, R187). -/
structure SessionUnit where
  openA : Bool
  openB : Bool
  holder : Option Link
  lease : Option Nat
  restartPending : Option Link
  lastColdReset : ResetCause
  deriving DecidableEq, Repr

/-! ### The whole part -/

/-- The state of the A48. -/
structure State where
  /-- The commands that wait, first in, first out. -/
  pending : List Instr
  /-- Whether the supply is present (11 R187). -/
  supply : Bool
  /-- Whether RSTN stands active (11 R187). -/
  rstnActive : Bool
  /-- The source of the reset in progress, or of the last one (11 R187). -/
  resetSource : ResetCause
  rate : LineRate
  points : Vector PointState 48
  groups : Vector GroupState 8
  generation : BitVec 32
  alarmList : List Entry
  /-- The records held, oldest first (08 R143). -/
  journal : List Record
  nextSeq : Seq
  time : Stamp
  operator : OperatorUnit
  output : OutputUnit
  session : SessionUnit
  chainA : Chain
  chainB : Chain
  /-- The model's own counter for `Config.eventChoice` (log 3). -/
  choices : Nat
  deriving DecidableEq, Repr

/-! ### Values after cold reset -/

/-- A point after cold reset (01 R20, 02 R41, 03 R68, 06 R122, 07 R135). -/
def PointState.cold : PointState :=
  { line := false, definition := none, phase := .undefined, filtered := .normal, filterRun := none,
    qualified := .normalQ, delay := .idle, accumulated := 0, restartRaise := false, raiseCount := 0,
    window := none, restore := none, realert := none, shownPhase := .undefined, shownMark := false }

/-- A group after cold reset (01 R20, 04 R87). -/
def GroupState.cold : GroupState := { definition := none, firstOut := none }

/-- The time base after cold reset (08 R137). -/
def Stamp.cold : Stamp := { day := 0, ms := 0, isSet := false }

/-- A panel line that rests inactive (05 R107; log 7). -/
def PanelInput.cold : PanelInput := { line := false, filtered := false, run := none }

/-- The operator unit after cold reset (05 R107). -/
def OperatorUnit.cold : OperatorUnit :=
  { ack := .cold, silence := .cold, reset := .cold, test := .cold,
    slotPanel := none, slotA := none, slotB := none, waiting := [] }

/-- The output unit after cold reset (06 R122). -/
def OutputUnit.cold : OutputUnit :=
  { cycle := 0, horn := false, tone := false, testLevel := false, hostTimer := none }

/-- A delivery unit after cold reset (09 R153). -/
def Delivery.cold : Delivery :=
  { state := .off, confirmed := none, next := none, retry := 0, timer := none, offers := [] }

/-- A receiver in HUNT with no partial frame (10 R180). -/
def Receiver.cold : Receiver := { state := .hunt, crc := 0xFFFF, due := 0, frame := [], timer := none }

/-- The chain of a link after cold reset (09 R153, 10 R180). -/
def Chain.cold : Chain := { rx := .cold, places := [], line := none, delivery := .cold }

/-- The session unit after cold reset (10 R177, 11 R181, R187). -/
def SessionUnit.cold : SessionUnit :=
  { openA := false, openB := false, holder := none, lease := none, restartPending := none, lastColdReset := .power }

/-- The START record of a cold reset (08 R147). -/
def Record.coldStart (cause : StartCause) : Record :=
  { seq := 1, stamp := .cold, kind := .start cause, source := .part, point := none, group := none }

/-- The A48 at the end of a cold reset from power-on, with every pin at rest (11 R187, 08 R147; pin levels, straps and the
source: log 7). -/
def State.reset : State :=
  { pending := [], supply := true, rstnActive := false, resetSource := .power, rate := .b9600,
    points := Vector.replicate 48 PointState.cold, groups := Vector.replicate 8 GroupState.cold,
    generation := 0, alarmList := [], journal := [Record.coldStart .power], nextSeq := 2,
    time := .cold, operator := .cold, output := .cold, session := .cold,
    chainA := .cold, chainB := .cold, choices := 0 }

end Sys2Proof.Machine
end

