-- ==== Sys2Proof/Machine/Operands.lean ====
section
/-! DEFINITION. Operand forms: numbers as bytes, the codes of chapter 12, sequence-number arithmetic, the bodies of requests
and their argument checks, the encodings of records, entries and frames, and the accessors of the state's tables. -/

namespace Sys2Proof.Machine

/-! ### Accessors -/

/-- The state of one point. -/
def State.point (s : State) (p : Point) : PointState := s.points[p.val]

/-- The state of one group. -/
def State.group (s : State) (g : Group) : GroupState := s.groups[g.val]

/-- The chain of one link. -/
def State.chain (s : State) : Link → Chain
  | .a => s.chainA
  | .b => s.chainB

/-- Whether the session of a link is open (10 R177). -/
def SessionUnit.isOpen (u : SessionUnit) : Link → Bool
  | .a => u.openA
  | .b => u.openB

/-- A link as a source (00 Table 0-1). -/
def linkSource : Link → Source
  | .a => .linkA
  | .b => .linkB

/-- The link a source names, if any. -/
def sourceLink? : Source → Option Link
  | .linkA => some .a
  | .linkB => some .b
  | .panel => none
  | .part => none

/-- The action slot of a source (05 R88); PART has none. -/
def OperatorUnit.slot (u : OperatorUnit) : Source → Option Action
  | .panel => u.slotPanel
  | .linkA => u.slotA
  | .linkB => u.slotB
  | .part => none

/-- One of the four panel lines (05 R90). -/
def OperatorUnit.panelLine (u : OperatorUnit) : PanelLine → PanelInput
  | .ack => u.ack
  | .silence => u.silence
  | .reset => u.reset
  | .test => u.test

/-- The group a point's definition names (01 R2). -/
def State.groupOf (s : State) (p : Point) : Option Group := (s.point p).definition.map (·.group)

/-- The definition of the group of a point. -/
def State.groupDefOf (s : State) (p : Point) : Option GroupDef :=
  (s.groupOf p).bind fun g => (s.group g).definition

/-- Whether the group of a point is audible (06 R117). -/
def State.audible (s : State) (p : Point) : Bool := ((s.groupDefOf p).map (·.audible)).getD false

/-- The entry of a point in the alarm list (04 R70). -/
def State.entry? (s : State) (p : Point) : Option Entry := s.alarmList.find? fun e => decide (e.point = p)

/-- The journal's record with a sequence number. -/
def State.record? (s : State) (n : Seq) : Option Record := s.journal.find? fun r => decide (r.seq = n)

/-! ### Sequence numbers (08 R142, R144) -/

/-- The number after `n` in the cycle that never passes through 0 (08 R142). -/
def seqNext (n : Seq) : Seq := if n = 0xFFFFFFFF then 1 else n + 1

/-- The number before `n` in that cycle (09 R158). -/
def seqPrev (n : Seq) : Seq := if n = 1 then 0xFFFFFFFF else n - 1

/-- The forward distance from `a` to `b` (08 R144). -/
def forward (a b : Seq) : Nat :=
  if a.toNat ≤ b.toNat then b.toNat - a.toNat else b.toNat + 4294967295 - a.toNat

/-- `k` consecutive numbers from `n` on. -/
def seqsFrom : Nat → Seq → List Seq
  | 0, _ => []
  | k + 1, n => n :: seqsFrom k (seqNext n)

/-- The generation after an accepted change (01 R6). -/
def nextGeneration (g : BitVec 32) : BitVec 32 := if g = 0xFFFFFFFF then 1 else g + 1

/-- The number of the oldest record held (08 R143). -/
def State.oldestSeq (s : State) : Seq := (s.journal.head?.map (·.seq)).getD s.nextSeq

/-- The number of the newest record held (08 R143). -/
def State.newestSeq (s : State) : Seq := (s.journal.getLast?.map (·.seq)).getD (seqPrev s.nextSeq)

/-- The positions of a sequence number against the journal (08 Table 8-3). -/
inductive SeqPosition where
  | held
  | next
  | behind
  | ahead
  deriving DecidableEq, Repr

/-- Whether the journal holds a record with number `n` (08 Table 8-3, Held). -/
def State.isHeld (s : State) (n : Seq) : Bool := decide (forward s.oldestSeq n + 1 ≤ s.journal.length)

/-- The position of a number from 1 on (08 R144). -/
def State.position (s : State) (n : Seq) : SeqPosition :=
  if s.isHeld n then .held
  else if n = s.nextSeq then .next
  else if forward n s.oldestSeq < 2147483648 then .behind
  else .ahead

/-! ### Numbers and bytes (12 R189) -/

/-- A byte from a number. -/
def byte (n : Nat) : Byte := BitVec.ofNat 8 n

/-- Two bytes, most significant first. -/
def be2 (n : Nat) : List Byte := [byte (n / 256), byte n]

/-- Four bytes, most significant first. -/
def be4 (n : Nat) : List Byte := [byte (n / 16777216), byte (n / 65536), byte (n / 256), byte n]

/-- The byte at an offset of a body. -/
def byteAt (body : List Byte) (i : Nat) : Nat := (body.getD i 0).toNat

/-- The two-byte number at an offset of a body. -/
def numberAt2 (body : List Byte) (i : Nat) : Nat := byteAt body i * 256 + byteAt body (i + 1)

/-- The four-byte number at an offset of a body. -/
def numberAt4 (body : List Byte) (i : Nat) : Nat :=
  byteAt body i * 16777216 + byteAt body (i + 1) * 65536 + byteAt body (i + 2) * 256 + byteAt body (i + 3)

/-- Yes/no, set/clear, open/closed, active/inactive (12 Table 12-3). -/
def boolCode (b : Bool) : Byte := if b then 1 else 0

/-- An absent one-byte field (12 Table 12-3). -/
def absentByte : Byte := 0xFF

/-- A remaining or elapsed time, absent as FFFFFFFFh (12 Table 12-3). -/
def timeBytes : Option Nat → List Byte
  | some n => be4 n
  | none => [0xFF, 0xFF, 0xFF, 0xFF]

/-- A sequence number, absent as 00000000h (12 Table 12-3). -/
def seqBytes (n : Option Seq) : List Byte := be4 ((n.getD 0).toNat)

/-- A point, absent as FFh. -/
def pointCode (p : Option Point) : Byte := (p.map fun p => byte p.val).getD absentByte

/-- A group, absent as FFh. -/
def groupCode (g : Option Group) : Byte := (g.map fun g => byte g.val).getD absentByte

/-! ### Codes (12 Tables 12-1 to 12-3, 12-7) -/

def Phase.code : Phase → Byte
  | .undefined => 0x00
  | .outOfService => 0x01
  | .normal => 0x02
  | .alert => 0x03
  | .acked => 0x04
  | .clearedUnacked => 0x05
  | .waitReset => 0x06
  | .ringback => 0x07
  | .suppressed => 0x08

def sourceCode : Source → Byte
  | .panel => 0x00
  | .linkA => 0x01
  | .linkB => 0x02
  | .part => 0x03

/-- A link or the authority holder, absent as FFh. -/
def linkCode : Option Link → Byte
  | some .a => 0x01
  | some .b => 0x02
  | none => 0xFF

def Level.code : Level → Byte
  | .normal => 0x00
  | .abnormal => 0x01

def Qualified.code : Qualified → Byte
  | .normalQ => 0x00
  | .abnormalQ => 0x01

/-- The reported delay state (02 Table 2-3): the accumulation shows as ON_DELAY, the forget timer as OFF_DELAY. -/
def Delay.code : Delay → Byte
  | .idle => 0x00
  | .onDelay _ => 0x01
  | .accumulating => 0x01
  | .offDelay _ => 0x02
  | .forget _ => 0x02

/-- The reported elapsed time of the delay (02 Table 2-3, R39). -/
def Delay.elapsed (accumulated : Nat) : Delay → Nat
  | .idle => 0
  | .onDelay e => e
  | .accumulating => accumulated
  | .offDelay e => e
  | .forget e => e

def SequenceType.code : SequenceType → Byte
  | .auto => 0x00
  | .manual => 0x01
  | .ringback => 0x02

def Sense.code : Sense → Byte
  | .normallyOpen => 0x00
  | .normallyClosed => 0x01

def DelayMode.code : DelayMode → Byte
  | .continuous => 0x00
  | .accumulating => 0x01

/-- The operator sources as one byte: 01h PANEL, 02h LINK_A, 04h LINK_B (12 Table 12-3). -/
def GroupDef.sourcesCode (d : GroupDef) : Byte :=
  byte ((if d.permitsPanel then 1 else 0) + (if d.permitsA then 2 else 0) + (if d.permitsB then 4 else 0))

def Result.code : Result → Byte
  | .ok => 0x00
  | .nothing => 0x01
  | .noSession => 0x02
  | .unknownKind => 0x03
  | .badFormat => 0x04
  | .badArgument => 0x05
  | .notDefined => 0x06
  | .wrongState => 0x07
  | .notAuthority => 0x08
  | .heldByOther => 0x09
  | .notPermitted => 0x0A

def DeliveryState.code : DeliveryState → Byte
  | .off => 0x00
  | .live => 0x01
  | .silent => 0x02

def LineRate.code : LineRate → Byte
  | .b9600 => 0x00
  | .b19200 => 0x01
  | .b57600 => 0x02
  | .b115200 => 0x03

/-- The rate in baud (10 Table 10-1). -/
def LineRate.baud : LineRate → Nat
  | .b9600 => 9600
  | .b19200 => 19200
  | .b57600 => 57600
  | .b115200 => 115200

/-- The rate the straps give (10 Table 10-1). -/
def strapRate (rate1 rate0 : Bool) : LineRate :=
  match rate1, rate0 with
  | false, false => .b9600
  | false, true => .b19200
  | true, false => .b57600
  | true, true => .b115200

def resetCode : ResetCause → Byte
  | .power => 0x00
  | .line => 0x01

/-- The cause as a START record carries it (08 R147). -/
def resetStart : ResetCause → StartCause
  | .power => .power
  | .line => .line

def StartCause.code : StartCause → Byte
  | .power => 0x00
  | .line => 0x01
  | .restart => 0x02

def ClearCause.code : ClearCause → Byte
  | .reset => 0x00
  | .gone => 0x01

def RestoreCause.code : RestoreCause → Byte
  | .auto => 0x00
  | .request => 0x01

def AuthorityAction.code : AuthorityAction → Byte
  | .taken => 0x00
  | .released => 0x01
  | .expired => 0x02
  | .dropped => 0x03

/-- The action and cause bytes of a SESSION record (12 Table 12-7). -/
def SessionAction.codes : SessionAction → List Byte
  | .opened => [0x00, 0xFF]
  | .closedBye => [0x01, 0x00]
  | .closedHello => [0x01, 0x01]

/-- Cleared latches: 01h HORN, 02h TONE, added together (12 Table 12-5). -/
def latchCode (horn tone : Bool) : Byte := byte ((if horn then 1 else 0) + (if tone then 2 else 0))

/-! ### Request kinds (12 Table 12-1, 10 Table 10-4) -/

inductive ReqKind where
  | hello
  | bye
  | claim
  | release
  | restart
  | readStatus
  | defineGroup
  | undefineGroup
  | definePoint
  | undefinePoint
  | setService
  | restore
  | setTime
  | ack
  | reset
  | silence
  | lampTest
  | readPoint
  | readGroup
  | readList
  | readJournal
  | subscribe
  | unsubscribe
  | confirm
  deriving DecidableEq, Repr

def ReqKind.code : ReqKind → Byte
  | .hello => 0x01
  | .bye => 0x02
  | .claim => 0x03
  | .release => 0x04
  | .restart => 0x05
  | .readStatus => 0x06
  | .defineGroup => 0x10
  | .undefineGroup => 0x11
  | .definePoint => 0x12
  | .undefinePoint => 0x13
  | .setService => 0x14
  | .restore => 0x15
  | .setTime => 0x16
  | .ack => 0x20
  | .reset => 0x21
  | .silence => 0x22
  | .lampTest => 0x23
  | .readPoint => 0x30
  | .readGroup => 0x31
  | .readList => 0x32
  | .readJournal => 0x33
  | .subscribe => 0x34
  | .unsubscribe => 0x35
  | .confirm => 0x36

/-- Every request kind. -/
def ReqKind.every : List ReqKind :=
  [.hello, .bye, .claim, .release, .restart, .readStatus, .defineGroup, .undefineGroup, .definePoint, .undefinePoint,
    .setService, .restore, .setTime, .ack, .reset, .silence, .lampTest, .readPoint, .readGroup, .readList, .readJournal,
    .subscribe, .unsubscribe, .confirm]

/-- The request kind a KIND byte codes: none for REPLY, EVENT and unassigned codes (10 Table 10-3, check 2). -/
def requestKind (b : Byte) : Option ReqKind := ReqKind.every.find? fun k => decide (k.code = b)

def replyKindCode : Byte := 0x80

def eventKindCode : Byte := 0x81

/-- The kinds that need configuration authority (11 R181). -/
def ReqKind.needsAuthority : ReqKind → Bool
  | .defineGroup => true
  | .undefineGroup => true
  | .definePoint => true
  | .undefinePoint => true
  | .setService => true
  | .restore => true
  | .setTime => true
  | .restart => true
  | .hello => false
  | .bye => false
  | .claim => false
  | .release => false
  | .readStatus => false
  | .ack => false
  | .reset => false
  | .silence => false
  | .lampTest => false
  | .readPoint => false
  | .readGroup => false
  | .readList => false
  | .readJournal => false
  | .subscribe => false
  | .unsubscribe => false
  | .confirm => false

/-- The kinds that only read: they append nothing and offer nothing. -/
def ReqKind.reads : ReqKind → Bool
  | .readStatus => true
  | .readPoint => true
  | .readGroup => true
  | .readList => true
  | .readJournal => true
  | .hello => false
  | .bye => false
  | .claim => false
  | .release => false
  | .restart => false
  | .defineGroup => false
  | .undefineGroup => false
  | .definePoint => false
  | .undefinePoint => false
  | .setService => false
  | .restore => false
  | .setTime => false
  | .ack => false
  | .reset => false
  | .silence => false
  | .lampTest => false
  | .subscribe => false
  | .unsubscribe => false
  | .confirm => false

/-- Check 3: LEN, and for DEFINE POINT the label length byte, are what the kind requires (12 R190, Table 12-4). -/
def ReqKind.formatOk (body : List Byte) : ReqKind → Bool
  | .hello => body.length == 0
  | .bye => body.length == 0
  | .claim => body.length == 0
  | .release => body.length == 0
  | .restart => body.length == 0
  | .readStatus => body.length == 0
  | .silence => body.length == 0
  | .unsubscribe => body.length == 0
  | .defineGroup => body.length == 6
  | .undefineGroup => body.length == 1
  | .readGroup => body.length == 1
  | .definePoint => decide (13 ≤ body.length) && body.length == 13 + byteAt body 12
  | .undefinePoint => body.length == 1
  | .restore => body.length == 1
  | .readPoint => body.length == 1
  | .setService => body.length == 2
  | .setTime => body.length == 6
  | .ack => body.length == 2
  | .reset => body.length == 2
  | .lampTest => body.length == 1
  | .readList => body.length == 2
  | .readJournal => body.length == 5
  | .subscribe => body.length == 0 || body.length == 4
  | .confirm => body.length == 4

/-! ### Arguments of requests (check 5; 01 R7, 05 Table 5-3) -/

def asPoint (n : Nat) : Option Point := if h : n < 48 then some ⟨n, h⟩ else none

def asGroup (n : Nat) : Option Group := if h : n < 8 then some ⟨n, h⟩ else none

/-- A yes/no byte or a direction byte: 00h or 01h (12 R190). -/
def asBool : Nat → Option Bool
  | 0 => some false
  | 1 => some true
  | _ => none

def asSequenceType : Nat → Option SequenceType
  | 0 => some .auto
  | 1 => some .manual
  | 2 => some .ringback
  | _ => none

def asSense : Nat → Option Sense
  | 0 => some .normallyOpen
  | 1 => some .normallyClosed
  | _ => none

def asDelayMode : Nat → Option DelayMode
  | 0 => some .continuous
  | 1 => some .accumulating
  | _ => none

/-- A number within a range, both ends included. -/
def inRange (lo hi n : Nat) : Option Nat := if lo ≤ n ∧ n ≤ hi then some n else none

/-- The chatter limit and window a DEFINE POINT keeps (01 R5): a limit of 0 keeps a window of 0 unchecked. -/
def chatterArgs (limit window : Nat) : Option (Nat × Nat) :=
  if limit = 0 then some (0, 0)
  else if 2 ≤ limit ∧ limit ≤ 20 ∧ 10 ≤ window ∧ window ≤ 3600 then some (limit, window)
  else none

/-- A label of at most 16 printable characters, 20h to 7Eh (01 R4). -/
def labelArg (chars : List Byte) : Option (List Byte) :=
  if chars.length ≤ 16 ∧ chars.all (fun c => decide (0x20 ≤ c.toNat) && decide (c.toNat ≤ 0x7E)) then some chars else none

/-- The arguments of a DEFINE GROUP body, none when one is out of range (01 R7, Table 1-1; 12 Table 12-4). -/
def groupArgs (body : List Byte) : Option (Group × GroupDef) := do
  let g ← asGroup (byteAt body 0)
  let sequence ← asSequenceType (byteAt body 1)
  let firstOut ← asBool (byteAt body 2)
  let audible ← asBool (byteAt body 3)
  let sources ← inRange 0 7 (byteAt body 4)
  let minutes ← inRange 0 240 (byteAt body 5)
  let definition : GroupDef :=
    { sequence := sequence, firstOutEnabled := firstOut, audible := audible,
      permitsPanel := sources.testBit 0, permitsA := sources.testBit 1, permitsB := sources.testBit 2,
      realertMinutes := minutes }
  return (g, definition)

/-- The arguments of a DEFINE POINT body, none when one is out of range (01 R4, R5, R7, Table 1-2; 12 Table 12-4). -/
def pointArgs (body : List Byte) : Option (Point × PointDef) := do
  let p ← asPoint (byteAt body 0)
  let g ← asGroup (byteAt body 1)
  let sense ← asSense (byteAt body 2)
  let filter ← inRange 2 250 (byteAt body 3)
  let onDelay ← inRange 0 6000 (numberAt2 body 4)
  let offDelay ← inRange 0 6000 (numberAt2 body 6)
  let mode ← asDelayMode (byteAt body 8)
  let chatter ← chatterArgs (byteAt body 9) (numberAt2 body 10)
  let label ← labelArg (body.drop 13)
  let definition : PointDef :=
    { group := g, sense := sense, filterMs := filter, onDelay := onDelay, offDelay := offDelay, mode := mode,
      chatterLimit := chatter.1, chatterWindow := chatter.2, label := label }
  return (p, definition)

/-- The scope an ACK body names, none for BAD_ARGUMENT (05 Tables 5-2, 5-3); for scope all the value byte is not examined
(12 R190). -/
def ackScope (body : List Byte) : Option Scope :=
  match byteAt body 0 with
  | 0 => (asPoint (byteAt body 1)).map .point
  | 1 => (asGroup (byteAt body 1)).map .group
  | 2 => some .all
  | _ => none

/-- The scope a RESET body names: scope point is not accepted (05 Table 5-2). -/
def resetScope (body : List Byte) : Option Scope :=
  match byteAt body 0 with
  | 1 => (asGroup (byteAt body 1)).map .group
  | 2 => some .all
  | _ => none

/-! ### Contacts and delays -/

/-- The sense-corrected level of a line (02 Table 2-1). -/
def Sense.correct : Sense → Bool → Level
  | .normallyOpen, active => if active then .abnormal else .normal
  | .normallyClosed, active => if active then .normal else .abnormal

/-- The on-delay in ms (01 R3). -/
def PointDef.onDelayMs (d : PointDef) : Nat := d.onDelay * 10

/-- The off-delay in ms (01 R3). -/
def PointDef.offDelayMs (d : PointDef) : Nat := d.offDelay * 10

/-- The chatter window in ms (07 R124). -/
def PointDef.windowMs (d : PointDef) : Nat := d.chatterWindow * 1000

/-- The re-alert interval in ms (03 R57). -/
def GroupDef.realertMs (d : GroupDef) : Nat := d.realertMinutes * 60000

/-- Whether a group permits ACK and RESET from a source (05 R93). -/
def GroupDef.permits (d : GroupDef) : Source → Bool
  | .panel => d.permitsPanel
  | .linkA => d.permitsA
  | .linkB => d.permitsB
  | .part => false

/-! ### Frames (10 R169) -/

/-- One bit of the check: shift out the top bit, and divide by 1021h when it was 1. -/
def crcBit (c : Crc) : Crc := if c.msb then (c <<< 1) ^^^ 0x1021 else c <<< 1

/-- Feed one byte, most significant bit first (10 R169). -/
def crcByte (c : Crc) (b : Byte) : Crc :=
  crcBit (crcBit (crcBit (crcBit (crcBit (crcBit (crcBit (crcBit (c ^^^ (b.setWidth 16 <<< 8)))))))))

/-- CHECK over a run of bytes, from FFFFh, without inversion (10 R169). -/
def crcOf (bytes : List Byte) : Crc := bytes.foldl crcByte 0xFFFF

/-- CHECK as two bytes, high byte first (10 R169). -/
def crcBytes (c : Crc) : List Byte := be2 c.toNat

/-- A whole frame: SYNC, LEN, KIND, TAG, BODY, CHECK (10 R169). -/
def frameBytes (kind tag : Byte) (body : List Byte) : List Byte :=
  let covered := byte body.length :: kind :: tag :: body
  0xA5 :: covered ++ crcBytes (crcOf covered)

/-- A reply's frame: the request's KIND, the result code, then the fields (10 R175, 12 R191). -/
def Reply.frame (r : Reply) : List Byte := frameBytes replyKindCode r.tag (r.kind :: r.result.code :: r.fields)

/-! ### Records and entries (12 R192, Table 12-8) -/

/-- A time stamp in seven bytes (12 Table 12-3). -/
def Stamp.bytes (t : Stamp) : List Byte := be2 t.day.toNat ++ be4 t.ms ++ [boolCode t.isSet]

/-- An optional time stamp, absent as seven bytes of FFh. -/
def stampBytes : Option Stamp → List Byte
  | some t => t.bytes
  | none => List.replicate 7 0xFF

/-- The kind code of a record (12 Table 12-7). -/
def RecordKind.code : RecordKind → Byte
  | .start _ => 0x01
  | .raised _ _ _ => 0x02
  | .cleared _ => 0x03
  | .acked _ => 0x04
  | .realert _ => 0x05
  | .resetPoint _ => 0x06
  | .firstOutCleared _ => 0x07
  | .silenced _ _ => 0x08
  | .suppressed _ => 0x09
  | .restored _ _ => 0x0A
  | .serviceOut _ => 0x0B
  | .serviceIn _ => 0x0C
  | .defined _ _ => 0x0D
  | .undefined _ _ => 0x0E
  | .timeSet _ => 0x0F
  | .lampTestOn => 0x10
  | .lampTestOff => 0x11
  | .authority _ _ => 0x12
  | .session _ _ => 0x13
  | .deliverySilent _ => 0x14

/-- The detail of DEFINED and UNDEFINED: a phase for a point, then the generation (12 Table 12-7). -/
def definedDetail (phase : Option Phase) (generation : BitVec 32) : List Byte :=
  (phase.map fun ph => [ph.code]).getD [] ++ be4 generation.toNat

/-- The detail bytes of a record that carry values (12 Table 12-7). In TIME_SET the previous flag stands in the top bit of the
previous millisecond of day (12 R192). -/
def RecordKind.detail : RecordKind → List Byte
  | .start c => [c.code]
  | .raised ph n m => [ph.code, byte n, boolCode m]
  | .cleared ph => [ph.code]
  | .acked ph => [ph.code]
  | .realert ph => [ph.code]
  | .resetPoint ph => [ph.code]
  | .firstOutCleared c => [c.code]
  | .silenced h t => [latchCode h t]
  | .suppressed ph => [ph.code]
  | .restored ph c => [ph.code, c.code]
  | .serviceOut ph => [ph.code]
  | .serviceIn ph => [ph.code]
  | .defined ph g => definedDetail ph g
  | .undefined ph g => definedDetail ph g
  | .timeSet t => be2 t.day.toNat ++ be4 (t.ms + if t.isSet then 2147483648 else 0)
  | .lampTestOn => []
  | .lampTestOff => []
  | .authority act l => [act.code, linkCode (some l)]
  | .session act l => act.codes ++ [linkCode (some l)]
  | .deliverySilent l => [linkCode (some l)]

/-- The phase a record carries, for the kinds that change a phase (08 Table 8-2). -/
def RecordKind.newPhase : RecordKind → Option Phase
  | .start _ => none
  | .raised ph _ _ => some ph
  | .cleared ph => some ph
  | .acked ph => some ph
  | .realert ph => some ph
  | .resetPoint ph => some ph
  | .firstOutCleared _ => none
  | .silenced _ _ => none
  | .suppressed ph => some ph
  | .restored ph _ => some ph
  | .serviceOut ph => some ph
  | .serviceIn ph => some ph
  | .defined ph _ => ph
  | .undefined ph _ => ph
  | .timeSet _ => none
  | .lampTestOn => none
  | .lampTestOff => none
  | .authority _ _ => none
  | .session _ _ => none
  | .deliverySilent _ => none

/-- A record in 22 bytes (12 Table 12-6). -/
def Record.bytes (r : Record) : List Byte :=
  let detail := r.kind.detail
  be4 r.seq.toNat ++ r.stamp.bytes ++
    [r.kind.code, sourceCode r.source, pointCode r.point, groupCode r.group, byte detail.length] ++
    (detail ++ List.replicate (6 - detail.length) 0)

/-- An alarm list entry in 24 bytes (12 Table 12-8). -/
def Entry.bytes (e : Entry) : List Byte :=
  [byte e.point.val, byte e.group.val, e.phase.code, boolCode e.firstOut, byte e.raiseCount] ++ be4 e.openSeq.toNat ++
    e.openTime.bytes ++ [(e.ackedBy.map sourceCode).getD absentByte] ++ stampBytes e.ackedAt

end Sys2Proof.Machine
end

