-- ==== Sys2Proof/Machine/Flags.lean ====
section
/-! DEFINITION. What the outputs show, and the conditions the output unit evaluates: lamp patterns, lamp test, the latches'
conditions, COMMON, and whether the part is held in reset. -/

namespace Sys2Proof.Machine

/-- The six sequencing phases: a point in one of them is in service (03 R43). -/
def Phase.sequencing : Phase → Bool
  | .normal => true
  | .alert => true
  | .acked => true
  | .clearedUnacked => true
  | .waitReset => true
  | .ringback => true
  | .undefined => false
  | .outOfService => false
  | .suppressed => false

/-- The phases with an alarm list entry (03 R47, 04 R70). -/
def Phase.hasEntry : Phase → Bool
  | .alert => true
  | .acked => true
  | .clearedUnacked => true
  | .waitReset => true
  | .ringback => true
  | .normal => false
  | .undefined => false
  | .outOfService => false
  | .suppressed => false

/-- The part is held in reset while the supply is absent or RSTN is active (11 R187). -/
def State.inReset (s : State) : Bool := !s.supply || s.rstnActive

/-- The lamp patterns (06 Table 6-1). -/
inductive Pattern where
  | fast
  | slow
  | first
  | steady
  | off
  deriving DecidableEq, Repr

/-- Whether a lamp with a pattern is on at a cycle position (06 Table 6-1). -/
def Pattern.onAt (cycle : Nat) : Pattern → Bool
  | .fast => decide (cycle % 250 < 125)
  | .slow => decide (cycle < 500)
  | .first => decide (cycle < 100) || (decide (200 ≤ cycle) && decide (cycle < 300))
  | .steady => true
  | .off => false

/-- The pattern of a phase and a first-out mark (06 Table 6-2). -/
def phasePattern : Phase → Bool → Pattern
  | .alert, mark => if mark then .first else .fast
  | .acked, mark => if mark then .first else .steady
  | .clearedUnacked, mark => if mark then .first else .fast
  | .waitReset, _ => .steady
  | .ringback, _ => .slow
  | .normal, _ => .off
  | .outOfService, _ => .off
  | .suppressed, _ => .off
  | .undefined, _ => .off

/-- Lamp test is active while the panel level is active or the host timer runs (06 R112). -/
def OutputUnit.lampTest (u : OutputUnit) : Bool := u.testLevel || u.hostTimer.isSome

/-- The pattern lamp p shows (06 R110, R116). -/
def State.lampPattern (s : State) (p : Point) : Pattern :=
  if s.output.lampTest then .steady else phasePattern (s.point p).shownPhase (s.point p).shownMark

/-- The level of lamp output p; inactive during reset (06 R109, R122). -/
def State.lampOn (s : State) (p : Point) : Bool := !s.inReset && (s.lampPattern p).onAt s.output.cycle

/-- Whether a copy of a phase holds the HORN latch set (06 R119). -/
def Phase.holdsHorn : Phase → Bool
  | .alert => true
  | .clearedUnacked => true
  | .normal => false
  | .acked => false
  | .waitReset => false
  | .ringback => false
  | .undefined => false
  | .outOfService => false
  | .suppressed => false

/-- Whether a copy of a phase holds COMMON active (06 R121). -/
def Phase.holdsCommon : Phase → Bool
  | .alert => true
  | .acked => true
  | .normal => false
  | .clearedUnacked => false
  | .waitReset => false
  | .ringback => false
  | .undefined => false
  | .outOfService => false
  | .suppressed => false

/-- Every point number, ascending. -/
def everyPoint : List Point := List.finRange 48

/-- Every group number, ascending. -/
def everyGroup : List Group := List.finRange 8

/-- HORN condition: a point of an audible group is in ALERT or CLEARED_UNACKED (06 R119; read from the copies, log 18). -/
def State.hornCondition (s : State) : Bool :=
  everyPoint.any fun p => s.audible p && (s.point p).shownPhase.holdsHorn

/-- TONE condition: a point of an audible group is in RINGBACK (06 R119; read from the copies, log 18). -/
def State.toneCondition (s : State) : Bool :=
  everyPoint.any fun p => s.audible p && decide ((s.point p).shownPhase = .ringback)

/-- COMMON: a point is in ALERT or ACKED (06 R121). -/
def State.common (s : State) : Bool := everyPoint.any fun p => (s.point p).shownPhase.holdsCommon

/-- The HORN output; inactive during reset (06 R120, R122). -/
def State.hornOutput (s : State) : Bool := !s.inReset && s.output.horn

/-- The TONE output; inactive during reset (06 R120, R122). -/
def State.toneOutput (s : State) : Bool := !s.inReset && s.output.tone

/-- The COMMON output; inactive during reset (06 R121, R122). -/
def State.commonOutput (s : State) : Bool := !s.inReset && s.common

end Sys2Proof.Machine
end

