-- ==== Sys2Proof/Machine/Ops.lean ====
section
/-! DEFINITION. The named operations every meaning is built from: updating a point, a group or a chain, appending to the
journal, the delivery units' bookkeeping, the transmitter, the reply queue, the lease and the output unit. -/

namespace Sys2Proof.Machine

/-! ### Updates of the tables -/

/-- Replace the state of one point by a function of it. -/
def State.modifyPoint (s : State) (p : Point) (f : PointState → PointState) : State :=
  { s with points := s.points.set p.val (f (s.point p)) }

/-- Replace the state of every point by a function of it. -/
def State.mapPoints (s : State) (f : PointState → PointState) : State := { s with points := s.points.map f }

/-- Replace the state of one group by a function of it. -/
def State.modifyGroup (s : State) (g : Group) (f : GroupState → GroupState) : State :=
  { s with groups := s.groups.set g.val (f (s.group g)) }

/-- Replace the chain of one link. -/
def State.setChain (s : State) (l : Link) (c : Chain) : State :=
  match l with
  | .a => { s with chainA := c }
  | .b => { s with chainB := c }

/-- Replace the delivery unit of one link by a function of it. -/
def State.modifyDelivery (s : State) (l : Link) (f : Delivery → Delivery) : State :=
  s.setChain l { s.chain l with delivery := f (s.chain l).delivery }

/-- Replace the session unit by a function of it. -/
def State.modifySession (s : State) (f : SessionUnit → SessionUnit) : State := { s with session := f s.session }

/-- Replace the operator unit by a function of it. -/
def State.modifyOperator (s : State) (f : OperatorUnit → OperatorUnit) : State := { s with operator := f s.operator }

/-- Replace the output unit by a function of it. -/
def State.modifyOutput (s : State) (f : OutputUnit → OutputUnit) : State := { s with output := f s.output }

/-- Open or close the session of a link (10 R177). -/
def SessionUnit.setOpen (u : SessionUnit) (l : Link) (isOpen : Bool) : SessionUnit :=
  match l with
  | .a => { u with openA := isOpen }
  | .b => { u with openB := isOpen }

/-- Replace the slot of a source (05 R88); PART has none. -/
def OperatorUnit.setSlot (u : OperatorUnit) (src : Source) (a : Option Action) : OperatorUnit :=
  match src with
  | .panel => { u with slotPanel := a }
  | .linkA => { u with slotA := a }
  | .linkB => { u with slotB := a }
  | .part => u

/-- Replace one of the four panel lines (05 R90). -/
def OperatorUnit.setPanelLine (u : OperatorUnit) (line : PanelLine) (x : PanelInput) : OperatorUnit :=
  match line with
  | .ack => { u with ack := x }
  | .silence => { u with silence := x }
  | .reset => { u with reset := x }
  | .test => { u with test := x }

/-- The configuration generation advances by an accepted change (01 R6). -/
def State.advanceGeneration (s : State) : State := { s with generation := nextGeneration s.generation }

/-! ### Delivery units (09) -/

/-- The count of records in flight: one less than the distance from confirmed to next (09 R152). -/
def Delivery.inFlight (d : Delivery) : Nat :=
  match d.confirmed, d.next with
  | some c, some n => forward c n - 1
  | _, _ => 0

/-- The numbers in flight, ascending (09 R152). -/
def Delivery.flight (d : Delivery) : List Seq :=
  match d.confirmed with
  | some c => seqsFrom d.inFlight (seqNext c)
  | none => []

/-- Whether a record with this number is in flight: after confirmed and before next along the cycle (09 R160). -/
def Delivery.flies (d : Delivery) (n : Seq) : Bool :=
  match d.confirmed, d.next with
  | some c, some nx => decide (n ≠ 0) && decide (0 < forward c n) && decide (forward c n < forward c nx)
  | _, _ => false

/-- Offer record next, if the delivery is LIVE, has room in its window and the journal holds next (09 R155). -/
def Delivery.offerOne (held : Seq → Bool) (d : Delivery) : Delivery :=
  match d.next with
  | some n =>
    if d.state = .live ∧ d.inFlight < Config.deliveryWindow ∧ held n = true then
      { d with offers := d.offers ++ [{ seq := n, isRepeat := false }], next := some (seqNext n),
               timer := if d.inFlight = 0 then some Config.retransmissionMs else d.timer }
    else d
  | none => d

/-- Go on offering, at most `k` records (09 R155). -/
def Delivery.offerUpTo (held : Seq → Bool) : Nat → Delivery → Delivery
  | 0, d => d
  | k + 1, d => Delivery.offerUpTo held k (d.offerOne held)

/-- The delivery becomes OFF: nothing in flight, confirmed kept, next the number after it (09 R153, R159). -/
def Delivery.close (d : Delivery) : Delivery :=
  { state := .off, confirmed := d.confirmed, next := d.confirmed.map seqNext, retry := 0, timer := none, offers := [] }

/-- The delivery falls SILENT (09 R162, steps 1 to 3). -/
def Delivery.fallSilent (d : Delivery) : Delivery :=
  { state := .silent, confirmed := d.confirmed, next := d.confirmed.map seqNext, retry := 0, timer := none, offers := [] }

/-- The journal has dropped record `n` (09 R163). -/
def Delivery.drop (n : Seq) (d : Delivery) : Delivery :=
  match d.confirmed with
  | some c =>
    if d.state = .live ∧ seqNext c = n then
      let moved : Delivery :=
        { d with confirmed := some n,
                 next := if d.next = some n then some (seqNext n) else d.next,
                 offers := d.offers.filter fun o => decide (o.seq ≠ n) }
      { moved with timer := if moved.inFlight = 0 then none else d.timer }
    else d
  | none => d

/-- A CONFIRM of `n` (09 R160): advancing when `n` is in flight, else ignored. -/
def Delivery.confirm (n : Seq) (d : Delivery) : Delivery :=
  match d.confirmed with
  | some c =>
    if d.state = .live ∧ d.flies n = true then
      let moved : Delivery :=
        { d with confirmed := some n, retry := 0,
                 offers := d.offers.filter fun o => decide (forward c n < forward c o.seq) }
      { moved with timer := if moved.inFlight = 0 then none else some Config.retransmissionMs }
    else d
  | none => d

/-- A retransmission expiry below the last retry (09 R161): the whole window is offered again, as repeats but for the numbers
that wait as first sendings. -/
def Delivery.retransmit (d : Delivery) : Delivery :=
  { d with retry := d.retry + 1,
           offers := d.flight.map fun n => { seq := n, isRepeat := !d.offers.contains { seq := n, isRepeat := false } },
           timer := some Config.retransmissionMs }

/-- The delivery starts from given cursors (09 R158). -/
def Delivery.startFrom (confirmed next : Seq) : Delivery :=
  { state := .live, confirmed := some confirmed, next := some next, retry := 0, timer := none, offers := [] }

/-- Both delivery units offer what they can (09 R155). -/
def State.offer (s : State) : State :=
  { s with
    chainA := { s.chainA with delivery := s.chainA.delivery.offerUpTo s.isHeld Config.deliveryWindow },
    chainB := { s.chainB with delivery := s.chainB.delivery.offerUpTo s.isHeld Config.deliveryWindow } }

/-! ### The journal (08) -/

/-- Drop the oldest record and tell both delivery units (08 R145). -/
def State.dropOldest (s : State) : State :=
  match s.journal with
  | [] => s
  | r :: rest =>
    { s with
      journal := rest,
      chainA := { s.chainA with delivery := s.chainA.delivery.drop r.seq },
      chainB := { s.chainB with delivery := s.chainB.delivery.drop r.seq } }

/-- Make room for one record (08 R145). -/
def State.makeRoom (s : State) : State :=
  if s.journal.length < Config.journalCapacity then s else s.dropOldest

/-- The record the next append makes (08 R140, R142). -/
def State.newRecord (s : State) (kind : RecordKind) (src : Source) (p : Option Point) (g : Option Group) : Record :=
  { seq := s.nextSeq, stamp := s.time, kind := kind, source := src, point := p, group := g }

/-- Append one record (08 R142, R143, R145). -/
def State.append (s : State) (kind : RecordKind) (src : Source) (p : Option Point) (g : Option Group) : State :=
  let room := s.makeRoom
  { room with journal := room.journal ++ [s.newRecord kind src p g], nextSeq := seqNext s.nextSeq }

/-- Append a record of a point, with the point's group (08 R141). -/
def State.appendPoint (s : State) (kind : RecordKind) (src : Source) (p : Point) : State :=
  s.append kind src (some p) (s.groupOf p)

/-- Append a record that names no point and no group. -/
def State.appendBare (s : State) (kind : RecordKind) (src : Source) : State := s.append kind src none none

/-! ### The transmitter (10 R176) -/

/-- Replace the first place that `f` answers for. -/
def replaceFirst (f : Place → Option Place) : List Place → List Place
  | [] => []
  | x :: rest =>
    match f x with
    | some y => y :: rest
    | none => x :: replaceFirst f rest

/-- The reply of the oldest place in the condition reply waiting. -/
def firstReady : List Place → Option Reply
  | [] => none
  | .ready r :: _ => some r
  | .waiting _ _ _ :: rest => firstReady rest
  | .inProgress _ _ :: rest => firstReady rest
  | .onLine _ :: rest => firstReady rest

/-- A reply waiting becomes reply on the line. -/
def Place.toLine : Place → Option Place
  | .ready r => some (.onLine r)
  | .waiting _ _ _ => none
  | .inProgress _ _ => none
  | .onLine _ => none

/-- The EVENT frame of a record, with the cursors and the journal's bounds as they stand (12 R193). -/
def State.reportFrame (s : State) (d : Delivery) (o : Offer) (r : Record) : List Byte :=
  frameBytes eventKindCode 0 (boolCode o.isRepeat :: (seqBytes d.confirmed ++ seqBytes d.next ++
    be4 s.oldestSeq.toNat ++ be4 s.newestSeq.toNat ++ r.bytes))

/-- While its line is free, a transmitter begins the oldest reply waiting or, failing one, the report at the head of the offer
list (10 R176, 09 R156). -/
def State.startTx (s : State) (l : Link) : State :=
  let c := s.chain l
  match c.line with
  | some _ => s
  | none =>
    match firstReady c.places with
    | some r =>
      s.setChain l { c with places := replaceFirst Place.toLine c.places, line := some { bytes := r.frame, elapsed := 0 } }
    | none =>
      match c.delivery.offers with
      | [] => s
      | o :: rest =>
        match s.record? o.seq with
        | some r =>
          s.setChain l { c with delivery := { c.delivery with offers := rest },
                                line := some { bytes := s.reportFrame c.delivery o r, elapsed := 0 } }
        | none => s.setChain l { c with delivery := { c.delivery with offers := rest } }

/-- The end of an event that appends, subscribes, confirms or queues a reply: offers, then the transmitters (09 R155,
10 R176; log 15). -/
def State.finish (s : State) : State := (s.offer.startTx .a).startTx .b

/-! ### The reply queue (10 R173, R174) -/

/-- A request waiting: KIND, TAG, BODY. -/
structure Request where
  kind : Byte
  tag : Byte
  body : List Byte
  deriving DecidableEq, Repr

/-- Whether a place holds a request in progress. -/
def Place.isInProgress : Place → Bool
  | .inProgress _ _ => true
  | .waiting _ _ _ => false
  | .ready _ => false
  | .onLine _ => false

/-- The request a place holds while it waits. -/
def Place.request? : Place → Option Request
  | .waiting k t b => some { kind := k, tag := t, body := b }
  | .inProgress _ _ => none
  | .ready _ => none
  | .onLine _ => none

/-- The request that is next to be taken: the oldest waiting, when no request of the link is in progress (10 R174). -/
def Chain.nextRequest (c : Chain) : Option Request :=
  if c.places.any Place.isInProgress then none else c.places.findSome? Place.request?

/-- The place of the request being taken receives its reply. -/
def Place.answerWith (r : Reply) : Place → Option Place
  | .waiting _ _ _ => some (.ready r)
  | .inProgress _ _ => none
  | .ready _ => none
  | .onLine _ => none

/-- The place of the request in progress receives its reply. -/
def Place.completeWith (r : Reply) : Place → Option Place
  | .inProgress _ _ => some (.ready r)
  | .waiting _ _ _ => none
  | .ready _ => none
  | .onLine _ => none

/-- The place of the request being taken becomes request in progress. -/
def Place.begin : Place → Option Place
  | .waiting k t _ => some (.inProgress k t)
  | .inProgress _ _ => none
  | .ready _ => none
  | .onLine _ => none

/-- Act on the first place of a link's queue that `f` answers for. -/
def State.replacePlace (s : State) (l : Link) (f : Place → Option Place) : State :=
  s.setChain l { s.chain l with places := replaceFirst f (s.chain l).places }

/-! ### Authority (11 R181, R182) -/

/-- The lease is renewed when a request of the holder's link is taken (11 R182). -/
def State.renewLease (s : State) (l : Link) : State :=
  if s.session.holder = some l then s.modifySession fun u => { u with lease := some Config.leaseMs } else s

/-- Authority becomes free, and its lease timer is cancelled (11 R184). -/
def SessionUnit.free (u : SessionUnit) : SessionUnit := { u with holder := none, lease := none }

/-! ### The output unit (06) -/

/-- The output unit's copy of a point takes a phase and a mark (06 R111). -/
def State.copy (s : State) (p : Point) (ph : Phase) (mark : Bool) : State :=
  s.modifyPoint p fun x => { x with shownPhase := ph, shownMark := mark }

/-- A point of an audible group that enters ALERT sets HORN, one that enters RINGBACK sets TONE (06 R117, R118). -/
def State.setLatches (s : State) (p : Point) (ph : Phase) : State :=
  s.modifyOutput fun u =>
    { u with horn := u.horn || (s.audible p && decide (ph = .alert)),
             tone := u.tone || (s.audible p && decide (ph = .ringback)) }

/-- Each latch is cleared if its condition no longer holds; re-evaluation never sets a latch (06 R119). -/
def State.reevaluate (s : State) : State :=
  s.modifyOutput fun u => { u with horn := u.horn && s.hornCondition, tone := u.tone && s.toneCondition }

/-- The output unit takes a point's new phase and mark: copy, latches, re-evaluation (03 R48). -/
def State.tell (s : State) (p : Point) (ph : Phase) (mark : Bool) : State :=
  ((s.copy p ph mark).setLatches p ph).reevaluate

/-- A change at the lamp-test sources, with the record it calls for (06 R113). -/
def State.lampSources (s : State) (src : Source) (f : OutputUnit → OutputUnit) : State :=
  let t := s.modifyOutput f
  if s.output.lampTest = t.output.lampTest then t
  else t.appendBare (if t.output.lampTest then .lampTestOn else .lampTestOff) src

/-! ### Running -/

/-- While the part is held in reset nothing runs: the command has no effect (11 R187; log 9). -/
def State.whenRunning (s : State) (f : State → State) : State := if s.inReset then s else f s

end Sys2Proof.Machine
end

