-- ==== Sys2Proof/Machine/Sequence.lean ====
section
/-! DEFINITION. The alarm list and the sequence engine (03, 04): opening, mirroring and closing entries, the first-out mark,
RAISE, CLEAR, per-point ACK and RESET, and REALERT_EXPIRY. -/

namespace Sys2Proof.Machine

/-! ### The alarm list (04) -/

/-- Change the entry of a point, if it has one; its position stays (04 R74). -/
def State.modifyEntry (s : State) (p : Point) (f : Entry → Entry) : State :=
  { s with alarmList := s.alarmList.map fun e => if e.point = p then f e else e }

/-- Whether a RAISE of a point in NORMAL gives it its group's first-out mark (04 R78). -/
def State.takesMark (s : State) (d : PointDef) : Bool :=
  (((s.group d.group).definition.map (·.firstOutEnabled)).getD false) && (s.group d.group).firstOut.isNone

/-- Place a new entry at the tail of the list (04 R73). -/
def State.openEntry (s : State) (e : Entry) : State := { s with alarmList := s.alarmList ++ [e] }

/-- The entry of a point is taken out of the list; the later entries move forward (04 R76). -/
def State.dropEntry (s : State) (p : Point) : State :=
  { s with alarmList := s.alarmList.filter fun e => decide (e.point ≠ p) }

/-- The entry of a point leaves the list; if it was marked, its group's first-out point becomes absent, with
FIRST_OUT_CLEARED, cause GONE (04 R76, R80). -/
def State.closeEntry (s : State) (p : Point) (src : Source) : State :=
  match s.entry? p with
  | none => s.dropEntry p
  | some e =>
    if e.firstOut then
      ((s.dropEntry p).modifyGroup e.group fun g => { g with firstOut := none }).append
        (.firstOutCleared .gone) src (some p) (some e.group)
    else s.dropEntry p

/-- The acknowledgement fields take the first acknowledgement of the episode (04 R75). -/
def Entry.acknowledge (src : Source) (t : Stamp) (e : Entry) : Entry :=
  if e.ackedBy.isNone then { e with ackedBy := some src, ackedAt := some t } else e

/-- A re-raise raises the count by one, saturating at 255 (04 R74). -/
def Entry.countRaise (e : Entry) : Entry := { e with raiseCount := min (e.raiseCount + 1) 255 }

/-- Clear a group's first-out point by RESET (04 R79): the mark leaves its entry, the entry stays. The answer says whether a
mark was cleared. -/
def State.clearFirstOut (s : State) (g : Group) (src : Source) : State × Bool :=
  match (s.group g).firstOut with
  | none => (s, false)
  | some p =>
    let cleared := ((s.modifyGroup g fun x => { x with firstOut := none }).modifyEntry p
      fun e => { e with firstOut := false }).append (.firstOutCleared .reset) src (some p) (some g)
    (cleared.modifyPoint p fun x => { x with shownMark := false }, true)

/-! ### Phase changes (03 R46 to R48) -/

/-- Set a point's phase and its re-alert timer (03 R46 step 1, R58). -/
def State.setPhase (s : State) (p : Point) (ph : Phase) (timer : Option Nat) : State :=
  s.modifyPoint p fun x => { x with phase := ph, realert := timer }

/-- A phase change within or out of an episode, as one event (03 R46): phase and re-alert timer, the record, the alarm list
(a mirror with `upd` where the new phase has an entry, else a close), the output unit. -/
def State.move (s : State) (p : Point) (ph : Phase) (timer : Option Nat) (kind : RecordKind) (src : Source)
    (upd : Entry → Entry) : State :=
  let recorded := (s.setPhase p ph timer).appendPoint kind src p
  if ph.hasEntry then
    (recorded.modifyEntry p fun e => upd { e with phase := ph }).tell p ph (s.point p).shownMark
  else (recorded.closeEntry p src).tell p ph false

/-- A RAISE in NORMAL begins an episode (03 R49, 04 R73, R78). -/
def State.openEpisode (s : State) (p : Point) (d : PointDef) : State :=
  let mark := s.takesMark d
  let marked := if mark then s.modifyGroup d.group fun g => { g with firstOut := some p } else s
  let recorded := (marked.setPhase p .alert none).appendPoint (.raised .alert 1 mark) .part p
  let entry : Entry :=
    { point := p, group := d.group, phase := .alert, firstOut := mark, raiseCount := 1, openSeq := s.nextSeq,
      openTime := s.time, ackedBy := none, ackedAt := none }
  (recorded.openEntry entry).tell p .alert mark

/-- A RAISE in CLEARED_UNACKED, WAIT_RESET or RINGBACK is a re-raise within the episode (03 R50). -/
def State.reraise (s : State) (p : Point) : State :=
  match s.entry? p with
  | none => s.move p .alert none (.raised .alert 1 false) .part id
  | some e => s.move p .alert none (.raised .alert e.countRaise.raiseCount e.firstOut) .part Entry.countRaise

/-- The sequence engine takes a RAISE (03 Table 3-1); in the other phases it cannot arise (log 11). -/
def State.engineRaise (s : State) (p : Point) (d : PointDef) : State :=
  match (s.point p).phase with
  | .normal => s.openEpisode p d
  | .clearedUnacked => s.reraise p
  | .waitReset => s.reraise p
  | .ringback => s.reraise p
  | .alert => s
  | .acked => s
  | .undefined => s
  | .outOfService => s
  | .suppressed => s

/-- Where a point goes that is both cleared and acknowledged, by sequence type (03 Table 3-1). -/
def SequenceType.settled : SequenceType → Phase
  | .auto => .normal
  | .manual => .waitReset
  | .ringback => .ringback

/-- The sequence type of a point's group (03 R43). -/
def State.sequenceOf (s : State) (p : Point) : SequenceType := ((s.groupDefOf p).map (·.sequence)).getD .auto

/-- The sequence engine takes a CLEAR (03 R51, R52); in the other phases it cannot arise (log 11). -/
def State.engineClear (s : State) (p : Point) : State :=
  match (s.point p).phase with
  | .alert => s.move p .clearedUnacked none (.cleared .clearedUnacked) .part id
  | .acked => s.move p (s.sequenceOf p).settled none (.cleared (s.sequenceOf p).settled) .part id
  | .normal => s
  | .clearedUnacked => s
  | .waitReset => s
  | .ringback => s
  | .undefined => s
  | .outOfService => s
  | .suppressed => s

/-- The re-alert timer an acknowledgement starts: none with an interval of 0 (03 R57). -/
def State.realertStart (s : State) (p : Point) : Option Nat :=
  match s.groupDefOf p with
  | some g => if g.realertMinutes = 0 then none else some g.realertMs
  | none => none

/-- A per-point ACK (03 R53 to R55), with whether the phase changed. -/
def State.ackPoint (s : State) (p : Point) (src : Source) : State × Bool :=
  match (s.point p).phase with
  | .alert => (s.move p .acked (s.realertStart p) (.acked .acked) src (Entry.acknowledge src s.time), true)
  | .clearedUnacked =>
    (s.move p (s.sequenceOf p).settled none (.acked (s.sequenceOf p).settled) src (Entry.acknowledge src s.time), true)
  | .normal => (s, false)
  | .acked => (s, false)
  | .waitReset => (s, false)
  | .ringback => (s, false)
  | .undefined => (s, false)
  | .outOfService => (s, false)
  | .suppressed => (s, false)

/-- A per-point RESET (03 R56), with whether the phase changed. -/
def State.resetPoint (s : State) (p : Point) (src : Source) : State × Bool :=
  match (s.point p).phase with
  | .waitReset => (s.move p .normal none (.resetPoint .normal) src id, true)
  | .ringback => (s.move p .normal none (.resetPoint .normal) src id, true)
  | .normal => (s, false)
  | .alert => (s, false)
  | .acked => (s, false)
  | .clearedUnacked => (s, false)
  | .undefined => (s, false)
  | .outOfService => (s, false)
  | .suppressed => (s, false)

/-- Whether the re-alert timer of an ACKED point is due (03 R57, R59). -/
def State.realertDue (s : State) (p : Point) : Bool :=
  decide ((s.point p).phase = .acked) && decide ((s.point p).realert = some 0)

/-- REALERT_EXPIRY (03 R59). -/
def execRealertExpiry (p : Point) (s : State) : Host.Outcome State Fault Refusal :=
  .next (s.whenRunning fun s =>
    if s.realertDue p then (s.move p .alert none (.realert .alert) .part id).finish else s)

end Sys2Proof.Machine
end

