-- ==== Sys2Proof/Machine/Chatter.lean ====
section
/-! DEFINITION. The chatter unit (07): counting raises, suppression, the suppressed point, restore, and the expiries of its
two timers. -/

namespace Sys2Proof.Machine

/-- The state of the chatter unit of a point with no count and no timer (07 R124). -/
def PointState.quiet (x : PointState) : PointState := { x with raiseCount := 0, window := none, restore := none }

/-- Suppression of a point (07 R127). -/
def State.suppress (s : State) (p : Point) : State :=
  (s.modifyPoint p PointState.quiet).move p .suppressed none (.suppressed .suppressed) .part id

/-- The raise count a counted RAISE reaches (07 R125). -/
def PointState.countedRaise (x : PointState) : Nat := if x.window.isNone then 1 else x.raiseCount + 1

/-- A RAISE is counted, the window started if none runs (07 R125). -/
def PointState.count (d : PointDef) (x : PointState) : PointState :=
  { x with raiseCount := x.countedRaise, window := if x.window.isNone then some d.windowMs else x.window }

/-- The chatter unit takes a RAISE of a point with a chatter limit (07 R125, R127, R128). -/
def State.chatterRaise (s : State) (p : Point) (d : PointDef) : State :=
  if (s.point p).phase = .suppressed then s.modifyPoint p fun x => { x with restore := none }
  else if (s.point p).countedRaise < d.chatterLimit then (s.modifyPoint p (PointState.count d)).engineRaise p d
  else s.suppress p

/-- The chatter unit takes a CLEAR of a point with a chatter limit (07 R125, R128). -/
def State.chatterClear (s : State) (p : Point) (d : PointDef) : State :=
  if (s.point p).phase = .suppressed then s.modifyPoint p fun x => { x with restore := some d.windowMs }
  else s.engineClear p

/-- A RAISE goes to the chatter unit, or past it when the limit is 0 (02 R35). -/
def State.raise (s : State) (p : Point) (d : PointDef) : State :=
  if d.chatterLimit = 0 then s.engineRaise p d else s.chatterRaise p d

/-- A CLEAR goes to the chatter unit, or past it when the limit is 0 (02 R35). -/
def State.clear (s : State) (p : Point) (d : PointDef) : State :=
  if d.chatterLimit = 0 then s.engineClear p else s.chatterClear p d

/-- A suppressed point returns to NORMAL (07 R129, R130 steps 1 to 4). -/
def State.restorePoint (s : State) (p : Point) (cause : RestoreCause) (src : Source) : State :=
  (((s.modifyPoint p fun x => { x with restore := none }).setPhase p .normal none).appendPoint
    (.restored .normal cause) src p).tell p .normal false

/-- CHATTER_WINDOW_EXPIRY (07 R126). -/
def execChatterWindowExpiry (p : Point) (s : State) : Host.Outcome State Fault Refusal :=
  .next (s.whenRunning fun s =>
    if (s.point p).window = some 0 then s.modifyPoint p fun x => { x with raiseCount := 0, window := none } else s)

/-- Whether the restore timer of a suppressed point is due (07 R129). -/
def State.restoreDue (s : State) (p : Point) : Bool :=
  decide ((s.point p).phase = .suppressed) && decide ((s.point p).restore = some 0)

/-- RESTORE_TIMER_EXPIRY (07 R129). -/
def execRestoreTimerExpiry (p : Point) (s : State) : Host.Outcome State Fault Refusal :=
  .next (s.whenRunning fun s => if s.restoreDue p then (s.restorePoint p .auto .part).finish else s)

end Sys2Proof.Machine
end

