-- ==== Sys2Proof/Machine/Qualification.lean ====
section
/-! DEFINITION. The input unit and the qualification unit (02): the filter, the two delay modes, the expiries of the delays, and
the RAISE a warm restart leaves due. -/

namespace Sys2Proof.Machine

/-! ### Qualification (02) -/

/-- The idle qualification state (02 R26, R38). -/
def PointState.unqualified (x : PointState) : PointState :=
  { x with qualified := .normalQ, delay := .idle, accumulated := 0, restartRaise := false }

/-- The point becomes ABNORMAL_Q and RAISE is taken in the same event (02 R29, R32, R35). -/
def State.becomeAbnormal (s : State) (p : Point) (d : PointDef) : State :=
  (s.modifyPoint p fun x =>
    { x with qualified := .abnormalQ, delay := .idle, accumulated := 0, restartRaise := false }).raise p d

/-- The point becomes NORMAL_Q and CLEAR is taken in the same event (02 R29, R35). -/
def State.becomeNormal (s : State) (p : Point) (d : PointDef) : State :=
  (s.modifyPoint p fun x => { x with qualified := .normalQ, delay := .idle }).clear p d

/-- The delay that starts at an abnormal level found in NORMAL_Q and IDLE, with an on-delay above 0 (02 R27, R31). -/
def PointDef.startOnDelay (d : PointDef) : Delay :=
  match d.mode with
  | .continuous => .onDelay 0
  | .accumulating => .accumulating

/-- An abnormal filtered level found in NORMAL_Q and IDLE (02 R27, R31, R37). -/
def State.beginAbnormal (s : State) (p : Point) (d : PointDef) : State :=
  if d.onDelay = 0 then s.becomeAbnormal p d
  else s.modifyPoint p fun x => { x with delay := d.startOnDelay }

/-- A filtered transition to abnormal (02 R27, R31); in the other states it cannot arise (log 11). -/
def State.takeAbnormal (s : State) (p : Point) (d : PointDef) : State :=
  match (s.point p).qualified, (s.point p).delay with
  | .normalQ, .idle => s.beginAbnormal p d
  | .normalQ, .forget _ => s.modifyPoint p fun x => { x with delay := .accumulating }
  | .abnormalQ, .offDelay _ => s.modifyPoint p fun x => { x with delay := .idle }
  | .normalQ, .onDelay _ => s
  | .normalQ, .accumulating => s
  | .normalQ, .offDelay _ => s
  | .abnormalQ, .idle => s
  | .abnormalQ, .onDelay _ => s
  | .abnormalQ, .accumulating => s
  | .abnormalQ, .forget _ => s

/-- The accumulated time a pause keeps (02 R33): the value reached, and just short of the on-delay, one millisecond below it,
when the pause is taken before an expiry that is due (02 R34; log 13). -/
def PointState.kept (d : PointDef) (x : PointState) : Nat := min x.accumulated (d.onDelayMs - 1)

/-- Accumulation pauses: the accumulated time is kept and the forget timer starts, or both end at 0 (02 R33, R34). -/
def PointState.pause (d : PointDef) (x : PointState) : PointState :=
  if d.offDelay = 0 ∨ x.kept d = 0 then { x with delay := .idle, accumulated := 0 }
  else { x with delay := .forget 0, accumulated := x.kept d }

/-- A filtered transition to normal (02 R28, R33). A RAISE due since a warm restart is dropped (log 12); in the other states the
transition cannot arise (log 11). -/
def State.takeNormal (s : State) (p : Point) (d : PointDef) : State :=
  match (s.point p).qualified, (s.point p).delay with
  | .normalQ, .idle => s.modifyPoint p fun x => { x with restartRaise := false }
  | .normalQ, .onDelay _ => s.modifyPoint p fun x => { x with delay := .idle }
  | .normalQ, .accumulating => s.modifyPoint p (PointState.pause d)
  | .abnormalQ, .idle =>
    if d.offDelay = 0 then s.becomeNormal p d else s.modifyPoint p fun x => { x with delay := .offDelay 0 }
  | .normalQ, .offDelay _ => s
  | .normalQ, .forget _ => s
  | .abnormalQ, .onDelay _ => s
  | .abnormalQ, .accumulating => s
  | .abnormalQ, .offDelay _ => s
  | .abnormalQ, .forget _ => s

/-- Qualification takes a filtered transition to a level (02 R27, R28, R31, R33). -/
def State.qualify (s : State) (p : Point) (d : PointDef) : Level → State
  | .abnormal => s.takeAbnormal p d
  | .normal => s.takeNormal p d

/-! ### The filter (02 R22 to R25) -/

/-- The present sense-corrected level of a point's line (02 R22). -/
def PointState.lineLevel (d : PointDef) (x : PointState) : Level := d.sense.correct x.line

/-- The filter takes a change of the line (02 R23): away from the filtered level a run begins, back to it the run is
abandoned. -/
def PointState.follow (d : PointDef) (x : PointState) : PointState :=
  if x.lineLevel d = x.filtered then { x with filterRun := none }
  else { x with filterRun := some (x.filterRun.getD 0) }

/-- INPUT_LINE_CHANGE (02 R22, R23). The pin takes its level in reset too; no line is then followed (11 R187). A change shorter
than 1 ms may go unseen (02 R40): the model's choice is that every change commanded is seen (log 30). -/
def execInputLineChange (p : Point) (active : Bool) (s : State) : Host.Outcome State Fault Refusal :=
  .next (
    if (s.point p).line = active then s
    else
      let moved := s.modifyPoint p fun x => { x with line := active }
      match (s.point p).definition with
      | some d => if s.inReset then moved else moved.modifyPoint p (PointState.follow d)
      | none => moved)

/-- The definition of a point whose filter run has reached the filter time (02 R23). -/
def State.filterDue (s : State) (p : Point) : Option PointDef :=
  match (s.point p).definition, (s.point p).filterRun with
  | some d, some e => if d.filterMs ≤ e then some d else none
  | some _, none => none
  | none, _ => none

/-- FILTERED_TRANSITION (02 R23, R24). -/
def execFilteredTransition (p : Point) (s : State) : Host.Outcome State Fault Refusal :=
  .next (s.whenRunning fun s =>
    match s.filterDue p with
    | none => s
    | some d =>
      let level := (s.point p).lineLevel d
      let filtered := s.modifyPoint p fun x => { x with filtered := level, filterRun := none }
      if (s.point p).phase = .outOfService then filtered else (filtered.qualify p d level).finish)

/-! ### Expiries (02 R29, R32, R34, R42) -/

/-- The definition of a point whose on-delay timer is due (02 R29). -/
def State.onDelayDue (s : State) (p : Point) : Option PointDef :=
  match (s.point p).definition, (s.point p).delay with
  | some d, .onDelay e => if d.onDelayMs ≤ e ∧ (s.point p).qualified = .normalQ then some d else none
  | some _, .idle => none
  | some _, .accumulating => none
  | some _, .offDelay _ => none
  | some _, .forget _ => none
  | none, _ => none

/-- The definition of a point whose off-delay timer is due (02 R29). -/
def State.offDelayDue (s : State) (p : Point) : Option PointDef :=
  match (s.point p).definition, (s.point p).delay with
  | some d, .offDelay e => if d.offDelayMs ≤ e ∧ (s.point p).qualified = .abnormalQ then some d else none
  | some _, .idle => none
  | some _, .accumulating => none
  | some _, .onDelay _ => none
  | some _, .forget _ => none
  | none, _ => none

/-- The definition of a point whose accumulated time has reached the on-delay (02 R32). -/
def State.accumulationDue (s : State) (p : Point) : Option PointDef :=
  match (s.point p).definition, (s.point p).delay with
  | some d, .accumulating =>
    if d.onDelayMs ≤ (s.point p).accumulated ∧ (s.point p).qualified = .normalQ then some d else none
  | some _, .idle => none
  | some _, .onDelay _ => none
  | some _, .offDelay _ => none
  | some _, .forget _ => none
  | none, _ => none

/-- The definition of a point whose forget timer is due (02 R34). -/
def State.forgetDue (s : State) (p : Point) : Option PointDef :=
  match (s.point p).definition, (s.point p).delay with
  | some d, .forget e => if d.offDelayMs ≤ e then some d else none
  | some _, .idle => none
  | some _, .onDelay _ => none
  | some _, .accumulating => none
  | some _, .offDelay _ => none
  | none, _ => none

/-- ON_DELAY_EXPIRY (02 R29). -/
def execOnDelayExpiry (p : Point) (s : State) : Host.Outcome State Fault Refusal :=
  .next (s.whenRunning fun s =>
    match s.onDelayDue p with
    | some d => (s.becomeAbnormal p d).finish
    | none => s)

/-- OFF_DELAY_EXPIRY (02 R29). -/
def execOffDelayExpiry (p : Point) (s : State) : Host.Outcome State Fault Refusal :=
  .next (s.whenRunning fun s =>
    match s.offDelayDue p with
    | some d => (s.becomeNormal p d).finish
    | none => s)

/-- ACCUMULATION_EXPIRY (02 R32). -/
def execAccumulationExpiry (p : Point) (s : State) : Host.Outcome State Fault Refusal :=
  .next (s.whenRunning fun s =>
    match s.accumulationDue p with
    | some d => (s.becomeAbnormal p d).finish
    | none => s)

/-- FORGET_TIMER_EXPIRY (02 R34). -/
def execForgetTimerExpiry (p : Point) (s : State) : Host.Outcome State Fault Refusal :=
  .next (s.whenRunning fun s =>
    match s.forgetDue p with
    | some _ => s.modifyPoint p fun x => { x with delay := .idle, accumulated := 0 }
    | none => s)

/-- RESTART_RAISE (02 R42): the RAISE a warm restart left due. -/
def execRestartRaise (p : Point) (s : State) : Host.Outcome State Fault Refusal :=
  .next (s.whenRunning fun s =>
    match (s.point p).definition with
    | some d => if (s.point p).restartRaise then (s.becomeAbnormal p d).finish else s
    | none => s)

end Sys2Proof.Machine
end

