-- ==== Sys2Proof/Machine/Requests.lean ====
section
/-! DEFINITION. What every request shares (10 R174, R175): it is taken from its place, renews the lease, passes the checks in
their order, is acted on by its owner, and has its reply queued. -/

namespace Sys2Proof.Machine

/-- What a request's owner answers: a reply at once, or a reply when its action is complete (10 R174). -/
inductive Answer where
  | reply (r : Result) (fields : List Byte)
  | later
  deriving DecidableEq, Repr

/-- Checks 1, 3 and 4 of 10 Table 10-3 for a request of a known kind: the result and the fields of the refusal, if any
(10 R174, 11 R181, 12 R191). -/
def State.refusal (s : State) (l : Link) (k : ReqKind) (body : List Byte) : Option (Result × List Byte) :=
  if k ≠ .hello ∧ s.session.isOpen l = false then some (.noSession, [])
  else if k.formatOk body = false then some (.badFormat, [])
  else if k.needsAuthority = false then none
  else
    match s.session.holder with
    | none => some (.notAuthority, [linkCode none])
    | some h => if h = l then none else some (.heldByOther, [linkCode (some h)])

/-- The place of the request taken receives its reply, or holds the request in progress (10 R174). -/
def State.conclude (s : State) (l : Link) (q : Request) : Answer → State
  | .reply r fields =>
    s.replacePlace l (Place.answerWith { kind := q.kind, tag := q.tag, result := r, fields := fields })
  | .later => s.replacePlace l Place.begin

/-- Whether an answer ends an event that can append, subscribe or confirm, and so tests for offers (09 R155): one that is acted
on, of a kind that does not only read. -/
def Answer.offers (k : ReqKind) : Answer → Bool
  | .reply r _ => decide (r = .ok) && !k.reads
  | .later => false

/-- The end of a request's event: after an answer that can have appended, the offers and both transmitters; after any other
reply its own transmitter alone, since the request has changed nothing (10 R174, 09 R155); a request in progress sends nothing. -/
def State.settle (s : State) (l : Link) (k : ReqKind) (a : Answer) : State :=
  if a.offers k then s.finish
  else
    match a with
    | .reply _ _ => s.startTx l
    | .later => s

/-- The lease renewal of a request taken (11 R182): any kind but HELLO, before its checks. -/
def State.renewFor (s : State) (l : Link) (k : ReqKind) : State := if k = .hello then s else s.renewLease l

/-- Check the request taken, and have its owner act on it: the state and the answer. -/
def State.handle (s : State) (l : Link) (k : ReqKind) (q : Request) (act : Request → State → State × Answer) :
    State × Answer :=
  match s.refusal l k q.body with
  | some (r, fields) => (s, .reply r fields)
  | none => act q s

/-- The request of kind `k`, selected by `sel`, that is next to be taken on a link while the part runs (10 R174). -/
def State.offered (s : State) (l : Link) (k : ReqKind) (sel : Request → Bool) : Option Request :=
  match (s.chain l).nextRequest with
  | some q => if requestKind q.kind = some k ∧ sel q = true then some q else none
  | none => none

/-- Take a request of kind `k` (10 R174): without effect when none is next to be taken (log 1). -/
def State.serve (s : State) (l : Link) (k : ReqKind) (sel : Request → Bool) (act : Request → State → State × Answer) :
    State :=
  s.whenRunning fun s =>
    match s.offered l k sel with
    | some q =>
      let done := (s.renewFor l k).handle l k q act
      (done.1.conclude l q done.2).settle l k done.2
    | none => s

/-- Any request of the kind. -/
def anyRequest : Request → Bool := fun _ => true

/-- UNKNOWN_KIND_REQUEST (10 R174, R175): checks 1 and 2; the reply echoes the KIND. -/
def execUnknownKindRequest (l : Link) (s : State) : Host.Outcome State Fault Refusal :=
  .next (s.whenRunning fun s =>
    match (s.chain l).nextRequest with
    | some q =>
      if requestKind q.kind = none then
        let r : Result := if s.session.isOpen l then .unknownKind else .noSession
        ((s.renewLease l).conclude l q (.reply r [])).startTx l
      else s
    | none => s)

end Sys2Proof.Machine
end

