-- ==== Sys2Proof/Machine/Configuration.lean ====
section
/-! DEFINITION. The configuration tables (01) and RESTORE (07 R130): defining and undefining groups and points, service in and
out. -/

namespace Sys2Proof.Machine

/-- The members of a group, ascending (01 R2). -/
def State.members (s : State) (g : Group) : List Point := everyPoint.filter fun p => decide (s.groupOf p = some g)

/-- A reply of a configuration request: the result and the generation as it then stands (01 R7). -/
def State.configAnswer (s : State) (r : Result) : Answer := .reply r (be4 s.generation.toNat)

/-- A change with its OK reply. -/
def State.accepted (s : State) : State × Answer := (s, s.configAnswer .ok)

/-- A request turned away, with its result. -/
def State.turnedAway (s : State) (r : Result) : State × Answer := (s, s.configAnswer r)

/-! ### Groups (01 R8 to R10) -/

/-- An accepted DEFINE GROUP (01 R8). -/
def State.putGroup (s : State) (l : Link) (g : Group) (d : GroupDef) : State :=
  let t := (s.modifyGroup g fun x => { x with definition := some d }).advanceGeneration
  t.append (.defined none t.generation) (linkSource l) none (some g)

/-- A DEFINE GROUP whose arguments are checked (01 R8). -/
def State.defineGroupRequest (s : State) (l : Link) : Option (Group × GroupDef) → State × Answer
  | none => s.turnedAway .badArgument
  | some (g, d) =>
    if (s.members g).all fun p => decide ((s.point p).phase = .outOfService) then (s.putGroup l g d).accepted
    else s.turnedAway .wrongState

/-- DEFINE_GROUP (01 R8). -/
def execDefineGroup (l : Link) (s : State) : Host.Outcome State Fault Refusal :=
  .next (s.serve l .defineGroup anyRequest fun q s => s.defineGroupRequest l (groupArgs q.body))

/-- An accepted UNDEFINE GROUP (01 R10). -/
def State.removeGroup (s : State) (l : Link) (g : Group) : State :=
  let t := (s.modifyGroup g fun x => { x with definition := none }).advanceGeneration
  t.append (.undefined none t.generation) (linkSource l) none (some g)

/-- An UNDEFINE GROUP whose argument is checked (01 R10). -/
def State.undefineGroupRequest (s : State) (l : Link) : Option Group → State × Answer
  | none => s.turnedAway .badArgument
  | some g =>
    if (s.group g).definition.isNone then s.turnedAway .notDefined
    else if (s.members g).isEmpty then (s.removeGroup l g).accepted
    else s.turnedAway .wrongState

/-- UNDEFINE_GROUP (01 R10). -/
def execUndefineGroup (l : Link) (s : State) : Host.Outcome State Fault Refusal :=
  .next (s.serve l .undefineGroup anyRequest fun q s => s.undefineGroupRequest l (asGroup (byteAt q.body 0)))

/-! ### Points (01 R11 to R14) -/

/-- A point takes a definition (01 R12 steps 1 to 4): the filtered level is set at once from the line. -/
def PointState.define (d : PointDef) (x : PointState) : PointState :=
  { x.unqualified.quiet with
    definition := some d, phase := .outOfService, filtered := x.lineLevel d, filterRun := none, realert := none }

/-- An accepted DEFINE POINT (01 R12). -/
def State.putPoint (s : State) (l : Link) (p : Point) (d : PointDef) : State :=
  let t := (s.modifyPoint p (PointState.define d)).advanceGeneration
  (t.appendPoint (.defined (some .outOfService) t.generation) (linkSource l) p).tell p .outOfService false

/-- A DEFINE POINT whose arguments are checked (01 R11). -/
def State.definePointRequest (s : State) (l : Link) : Option (Point × PointDef) → State × Answer
  | none => s.turnedAway .badArgument
  | some (p, d) =>
    if (s.group d.group).definition.isNone then s.turnedAway .notDefined
    else if (s.point p).phase = .undefined ∨ (s.point p).phase = .outOfService then (s.putPoint l p d).accepted
    else s.turnedAway .wrongState

/-- DEFINE_POINT (01 R11, R12, R13). -/
def execDefinePoint (l : Link) (s : State) : Host.Outcome State Fault Refusal :=
  .next (s.serve l .definePoint anyRequest fun q s => s.definePointRequest l (pointArgs q.body))

/-- A point loses its definition (01 R14 steps 1 to 3); its runtime fields stand idle (log 10). -/
def PointState.undefine (x : PointState) : PointState :=
  { x.unqualified.quiet with
    definition := none, phase := .undefined, filtered := .normal, filterRun := none, realert := none }

/-- An accepted UNDEFINE POINT (01 R14): the record carries the group the point has left. -/
def State.removePoint (s : State) (l : Link) (p : Point) : State :=
  let t := (s.modifyPoint p PointState.undefine).advanceGeneration
  (t.append (.undefined (some .undefined) t.generation) (linkSource l) (some p) (s.groupOf p)).tell p .undefined false

/-- An UNDEFINE POINT whose argument is checked (01 R14). -/
def State.undefinePointRequest (s : State) (l : Link) : Option Point → State × Answer
  | none => s.turnedAway .badArgument
  | some p =>
    if (s.point p).definition.isNone then s.turnedAway .notDefined
    else if (s.point p).phase = .outOfService then (s.removePoint l p).accepted
    else s.turnedAway .wrongState

/-- UNDEFINE_POINT (01 R14). -/
def execUndefinePoint (l : Link) (s : State) : Host.Outcome State Fault Refusal :=
  .next (s.serve l .undefinePoint anyRequest fun q s => s.undefinePointRequest l (asPoint (byteAt q.body 0)))

/-! ### Service (01 R15, R16) -/

/-- An accepted SET SERVICE out (01 R15). -/
def State.takeOut (s : State) (l : Link) (p : Point) : State :=
  ((s.modifyPoint p fun x => x.unqualified.quiet).advanceGeneration).move p .outOfService none
    (.serviceOut .outOfService) (linkSource l) id

/-- A SET SERVICE out whose arguments are checked (01 R15). -/
def State.serviceOutRequest (s : State) (l : Link) : Option Point → State × Answer
  | none => s.turnedAway .badArgument
  | some p =>
    if (s.point p).definition.isNone then s.turnedAway .notDefined
    else if (s.point p).phase = .outOfService then s.turnedAway .nothing
    else (s.takeOut l p).accepted

/-- An accepted SET SERVICE in (01 R16): the record precedes the RAISE an abnormal level may cause at once. -/
def State.putIn (s : State) (l : Link) (p : Point) (d : PointDef) : State :=
  let t := (((s.modifyPoint p PointState.unqualified).setPhase p .normal none).advanceGeneration.appendPoint
    (.serviceIn .normal) (linkSource l) p).tell p .normal false
  match (s.point p).filtered with
  | .normal => t
  | .abnormal => t.beginAbnormal p d

/-- A SET SERVICE in whose arguments are checked (01 R16). -/
def State.serviceInRequest (s : State) (l : Link) : Option Point → State × Answer
  | none => s.turnedAway .badArgument
  | some p =>
    match (s.point p).definition with
    | none => s.turnedAway .notDefined
    | some d =>
      if (s.point p).phase = .suppressed then s.turnedAway .wrongState
      else if (s.point p).phase = .outOfService then (s.putIn l p d).accepted
      else s.turnedAway .nothing

/-- Whether a SET SERVICE body asks for direction in (12 Table 12-4). -/
def asksIn (q : Request) : Bool := decide (q.body.getD 1 0 = 0x01)

/-- Whether a SET SERVICE request is one for SET_SERVICE_OUT: every one that does not ask for direction in (log 17). -/
def asksOut (q : Request) : Bool := !asksIn q

/-- The point of a SET SERVICE body whose direction is one of its two values (01 R7, 12 R190). -/
def servicePoint (body : List Byte) : Option Point := (asBool (byteAt body 1)).bind fun _ => asPoint (byteAt body 0)

/-- SET_SERVICE_OUT (01 R15). -/
def execSetServiceOut (l : Link) (s : State) : Host.Outcome State Fault Refusal :=
  .next (s.serve l .setService asksOut fun q s => s.serviceOutRequest l (servicePoint q.body))

/-- SET_SERVICE_IN (01 R16). -/
def execSetServiceIn (l : Link) (s : State) : Host.Outcome State Fault Refusal :=
  .next (s.serve l .setService asksIn fun q s => s.serviceInRequest l (servicePoint q.body))

/-! ### RESTORE (07 R130, R131) -/

/-- An accepted RESTORE (07 R130, R131): an ABNORMAL_Q point receives a RAISE after the RESTORED record. -/
def State.restoreByRequest (s : State) (l : Link) (p : Point) (d : PointDef) : State :=
  let restored := s.restorePoint p .request (linkSource l)
  match (s.point p).qualified with
  | .abnormalQ => restored.raise p d
  | .normalQ => restored

/-- A RESTORE whose argument is checked (07 R130): the reply carries the phase as it then stands. -/
def State.restoreRequest (s : State) (l : Link) : Option Point → State × Answer
  | none => (s, .reply .badArgument [absentByte])
  | some p =>
    match (s.point p).definition with
    | none => (s, .reply .notDefined [(s.point p).phase.code])
    | some d =>
      if (s.point p).phase = .suppressed then
        (s.restoreByRequest l p d, .reply .ok [((s.restoreByRequest l p d).point p).phase.code])
      else (s, .reply .wrongState [(s.point p).phase.code])

/-- RESTORE (07 R130). -/
def execRestore (l : Link) (s : State) : Host.Outcome State Fault Refusal :=
  .next (s.serve l .restore anyRequest fun q s => s.restoreRequest l (asPoint (byteAt q.body 0)))

end Sys2Proof.Machine
end

