-- ==== Sys2Proof/Machine/Deliveries.lean ====
section
/-! DEFINITION. Report delivery (09): SUBSCRIBE, UNSUBSCRIBE, CONFIRM and the retransmission timer. -/

namespace Sys2Proof.Machine

/-- The start a SUBSCRIBE body carries: absent with LEN 0 (12 R190). -/
def subscribeStart (body : List Byte) : Option Seq :=
  if body.isEmpty then none else some (BitVec.ofNat 32 (numberAt4 body 0))

/-- Where an accepted subscription starts (09 Table 9-2): confirmed, next, TRUNCATED. None for BAD_ARGUMENT (09 R157). -/
def State.subscription (s : State) : Option Seq → Option (Seq × Seq × Bool)
  | none => some (s.newestSeq, s.nextSeq, false)
  | some n =>
    if n = 0 then none
    else
      match s.position n with
      | .held => some (seqPrev n, n, false)
      | .next => some (s.newestSeq, n, false)
      | .behind => some (seqPrev s.oldestSeq, s.oldestSeq, true)
      | .ahead => none

/-- A SUBSCRIBE is accepted or refused (09 R157, R158). -/
def State.subscribeRequest (s : State) (l : Link) (start : Option Seq) : State × Answer :=
  match s.subscription start with
  | none => (s, .reply .badArgument [])
  | some (confirmed, next, truncated) =>
    (s.modifyDelivery l fun _ => Delivery.startFrom confirmed next,
      .reply .ok (boolCode truncated :: (be4 next.toNat ++ be4 s.oldestSeq.toNat ++ be4 s.newestSeq.toNat)))

/-- SUBSCRIBE (09 R157, R158). -/
def execSubscribe (l : Link) (s : State) : Host.Outcome State Fault Refusal :=
  .next (s.serve l .subscribe anyRequest fun q s => s.subscribeRequest l (subscribeStart q.body))

/-- An UNSUBSCRIBE (09 R159). -/
def State.unsubscribeRequest (s : State) (l : Link) : State × Answer :=
  let d := (s.chain l).delivery
  if d.state = .off then (s, .reply .nothing (seqBytes d.confirmed))
  else (s.modifyDelivery l Delivery.close, .reply .ok (seqBytes d.confirmed))

/-- UNSUBSCRIBE (09 R159). -/
def execUnsubscribe (l : Link) (s : State) : Host.Outcome State Fault Refusal :=
  .next (s.serve l .unsubscribe anyRequest fun _ s => s.unsubscribeRequest l)

/-- Whether a CONFIRM of `n` advances a delivery (09 R160). -/
def Delivery.advances (d : Delivery) (n : Seq) : Bool := decide (d.state = .live) && d.flies n

/-- A complete CONFIRM frame is examined and taken (09 R160, 10 R173 step 2). -/
def State.confirmFrame (s : State) (l : Link) (body : List Byte) : State :=
  if s.session.isOpen l && ReqKind.formatOk body .confirm then
    let n : Seq := BitVec.ofNat 32 (numberAt4 body 0)
    let renewed := s.renewLease l
    if (s.chain l).delivery.advances n then (renewed.modifyDelivery l (Delivery.confirm n)).finish else renewed
  else s

/-- CONFIRM (09 R160): discarded unread while a restart is pending on the link (10 R173 step 1). -/
def execConfirm (l : Link) (body : List Byte) (s : State) : Host.Outcome State Fault Refusal :=
  .next (s.whenRunning fun s => if s.session.restartPending = some l then s else s.confirmFrame l body)

/-- Whether the retransmission timer of a LIVE delivery is due (09 R161, R162). -/
def Delivery.expired (d : Delivery) : Bool := decide (d.state = .live) && decide (d.timer = some 0)

/-- The expiry of a retransmission timer (09 R161, R162). -/
def State.retransmissionExpiry (s : State) (l : Link) : State :=
  if (s.chain l).delivery.retry < Config.lastRetry then (s.modifyDelivery l Delivery.retransmit).startTx l
  else ((s.modifyDelivery l Delivery.fallSilent).appendBare (.deliverySilent l) .part).finish

/-- RETRANSMISSION_EXPIRY (09 R161, R162). -/
def execRetransmissionExpiry (l : Link) (s : State) : Host.Outcome State Fault Refusal :=
  .next (s.whenRunning fun s => if (s.chain l).delivery.expired then s.retransmissionExpiry l else s)

end Sys2Proof.Machine
end

