-- ==== Sys2Proof/Machine/Output.lean ====
section
/-! DEFINITION. The output unit's own events (06): SILENCE, the wrap of the pattern generator, the host lamp-test timer. -/

namespace Sys2Proof.Machine

/-- A SILENCE from a source (05 R100): both latches are cleared, with SILENCED if either was set. -/
def State.silence (s : State) (src : Source) : State :=
  if s.output.horn || s.output.tone then
    (s.modifyOutput fun u => { u with horn := false, tone := false }).appendBare
      (.silenced s.output.horn s.output.tone) src
  else s

/-- PATTERN_CYCLE_WRAP (06 R108): after position 999 the cycle returns to 0 (log 6). -/
def execPatternCycleWrap (s : State) : Host.Outcome State Fault Refusal :=
  .next (s.whenRunning fun s =>
    if s.output.cycle = Config.lastCycle then s.modifyOutput fun u => { u with cycle := 0 } else s)

/-- Whether the host timer is in its last millisecond: a running timer has 1 to 60,000 ms remaining (06 R112; log 6). -/
def OutputUnit.hostDue (u : OutputUnit) : Bool := (u.hostTimer.map fun n => decide (n ≤ 1)).getD false

/-- LAMP_TEST_HOST_EXPIRY (06 R115). -/
def execLampTestHostExpiry (s : State) : Host.Outcome State Fault Refusal :=
  .next (s.whenRunning fun s =>
    if s.output.hostDue then (s.lampSources .part fun u => { u with hostTimer := none }).finish else s)

end Sys2Proof.Machine
end

