-- ==== Sys2Proof/Machine/Operator.lean ====
section
/-! DEFINITION. The operator unit (05): the panel lines, the waiting list, the ACK, RESET and SILENCE requests, and the walks of
the actions in progress. -/

namespace Sys2Proof.Machine

/-! ### Actions (05 R88, R95, R97) -/

/-- The next point of a walk. -/
def nextPoint (p : Point) : Option Point := asPoint (p.val + 1)

/-- The next group of a walk. -/
def nextGroup (g : Group) : Option Group := asGroup (g.val + 1)

/-- A new action at the first position of its walk (05 R88, R95, R97). -/
def newAction (kind : ActionKind) (src : Source) (scope : Scope) (tag : Option Byte) : Action :=
  { kind := kind, source := src, scope := scope,
    pos :=
      match kind, scope with
      | .ack, .point p => .ackAt p
      | .ack, .group _ => .ackAt 0
      | .ack, .all => .ackAt 0
      | .reset, .group g => .examine g
      | .reset, .point _ => .examine 0
      | .reset, .all => .examine 0,
    pointsChanged := 0, marksCleared := 0, tag := tag }

/-- The result of a completed action (05 R96, R98). -/
def Action.result (a : Action) : Result := if a.pointsChanged = 0 ∧ a.marksCleared = 0 then .nothing else .ok

/-- The reply of a completed action (05 R96, R98; 12 Table 12-5). -/
def Action.reply (a : Action) (tag : Byte) : Reply :=
  match a.kind with
  | .ack => { kind := ReqKind.ack.code, tag := tag, result := a.result, fields := [byte a.pointsChanged] }
  | .reset =>
    { kind := ReqKind.reset.code, tag := tag, result := a.result, fields := [byte a.pointsChanged, byte a.marksCleared] }

/-- An action begins in the slot of its source (05 R88). -/
def State.beginAction (s : State) (a : Action) : State := s.modifyOperator fun u => u.setSlot a.source (some a)

/-- An action is complete: its slot is emptied and, for a link source, its reply queued (05 R88). -/
def State.completeAction (s : State) (src : Source) (a : Action) : State :=
  let emptied := s.modifyOperator fun u => u.setSlot src none
  match sourceLink? src, a.tag with
  | some l, some t => emptied.replacePlace l (Place.completeWith (a.reply t))
  | some _, none => emptied
  | none, _ => emptied

/-- The walk moves to its next position, or the action is complete. -/
def State.advanceAction (s : State) (src : Source) (a : Action) : Option WalkPos → State
  | some pos => s.modifyOperator fun u => u.setSlot src (some { a with pos := pos })
  | none => s.completeAction src a

/-! ### The walks -/

/-- Whether a group is defined and, as it stands, permits a source (05 R93, 01 R9). -/
def State.groupPermits (s : State) (g : Group) (src : Source) : Bool :=
  ((s.group g).definition.map fun d => d.permits src).getD false

/-- The check of an ACK walk for one point (05 R95). -/
def State.ackAllowed (s : State) (src : Source) (scope : Scope) (p : Point) : Bool :=
  match (s.point p).definition with
  | none => false
  | some d =>
    s.groupPermits d.group src &&
      match scope with
      | .group g => decide (d.group = g)
      | .point _ => true
      | .all => true

/-- Where an ACK walk goes after point `p` (05 R95). -/
def ackNext (scope : Scope) (p : Point) : Option WalkPos :=
  match scope with
  | .point _ => none
  | .group _ => (nextPoint p).map .ackAt
  | .all => (nextPoint p).map .ackAt

/-- One event of an ACK walk: the check and, when it passes, the per-point ACK (05 R95). -/
def State.ackWalk (s : State) (src : Source) (a : Action) (p : Point) : State :=
  if s.ackAllowed src a.scope p then
    let acked := s.ackPoint p src
    acked.1.advanceAction src { a with pointsChanged := a.pointsChanged + (if acked.2 then 1 else 0) } (ackNext a.scope p)
  else s.advanceAction src a (ackNext a.scope p)

/-- Where a RESET walk goes after group `g` (05 R97). -/
def resetNext (scope : Scope) (g : Group) : Option WalkPos :=
  match scope with
  | .group _ => none
  | .point _ => none
  | .all => (nextGroup g).map .examine

/-- The examination of a group by a RESET walk (05 R97). -/
def State.examineGroup (s : State) (src : Source) (a : Action) (g : Group) : State :=
  if s.groupPermits g src then s.advanceAction src a (some (.member g 0)) else s.advanceAction src a (resetNext a.scope g)

/-- Where a RESET walk goes after the check of point `p` for group `g` (05 R97). -/
def memberNext (g : Group) (p : Point) : WalkPos :=
  match nextPoint p with
  | some q => .member g q
  | none => .clearing g

/-- One member event of a RESET walk (05 R97): a point that is no member is passed over (log 14), and so is a member while the
group does not permit the source, since each event uses the sources standing when it is taken (01 R9; log 31). -/
def State.resetMember (s : State) (src : Source) (a : Action) (g : Group) (p : Point) : State :=
  if s.groupOf p = some g ∧ s.groupPermits g src = true then
    let done := s.resetPoint p src
    done.1.advanceAction src { a with pointsChanged := a.pointsChanged + (if done.2 then 1 else 0) } (some (memberNext g p))
  else s.advanceAction src a (some (memberNext g p))

/-- The clearing of a group's first-out point by a RESET walk (05 R97, 04 R79), passed over while the group does not permit the
source (01 R9; log 31). -/
def State.clearingStage (s : State) (src : Source) (a : Action) (g : Group) : State :=
  if s.groupPermits g src then
    let done := s.clearFirstOut g src
    done.1.advanceAction src { a with marksCleared := a.marksCleared + (if done.2 then 1 else 0) } (resetNext a.scope g)
  else s.advanceAction src a (resetNext a.scope g)

/-- ACK_WALK_EVENT (05 R95, R96). -/
def execAckWalkEvent (src : Source) (s : State) : Host.Outcome State Fault Refusal :=
  .next (s.whenRunning fun s =>
    match s.operator.slot src with
    | none => s
    | some a =>
      match a.pos with
      | .ackAt p => (s.ackWalk src a p).finish
      | .examine _ => s
      | .member _ _ => s
      | .clearing _ => s)

/-- RESET_GROUP_EXAMINE (05 R97). -/
def execResetGroupExamine (src : Source) (s : State) : Host.Outcome State Fault Refusal :=
  .next (s.whenRunning fun s =>
    match s.operator.slot src with
    | none => s
    | some a =>
      match a.pos with
      | .examine g => (s.examineGroup src a g).finish
      | .ackAt _ => s
      | .member _ _ => s
      | .clearing _ => s)

/-- RESET_MEMBER_EVENT (05 R97). -/
def execResetMemberEvent (src : Source) (s : State) : Host.Outcome State Fault Refusal :=
  .next (s.whenRunning fun s =>
    match s.operator.slot src with
    | none => s
    | some a =>
      match a.pos with
      | .member g p => (s.resetMember src a g p).finish
      | .ackAt _ => s
      | .examine _ => s
      | .clearing _ => s)

/-- FIRST_OUT_CLEARING (04 R79, 05 R97, R98). -/
def execFirstOutClearing (src : Source) (s : State) : Host.Outcome State Fault Refusal :=
  .next (s.whenRunning fun s =>
    match s.operator.slot src with
    | none => s
    | some a =>
      match a.pos with
      | .clearing g => (s.clearingStage src a g).finish
      | .ackAt _ => s
      | .examine _ => s
      | .member _ _ => s)

/-! ### The panel (05 R90 to R92) -/

/-- The filter of a panel line takes a change (05 R90): as a field line's filter, without sense correction. -/
def PanelInput.follow (x : PanelInput) : PanelInput :=
  if x.line = x.filtered then { x with run := none } else { x with run := some (x.run.getD 0) }

/-- PANEL_LINE_CHANGE (05 R90). The pin takes its level in reset too; no line is then followed (11 R187). As for a field line,
the model's choice is that every change commanded is seen (log 30). -/
def execPanelLineChange (line : PanelLine) (active : Bool) (s : State) : Host.Outcome State Fault Refusal :=
  .next (
    let x := s.operator.panelLine line
    if x.line = active then s
    else
      let moved : PanelInput := { x with line := active }
      s.modifyOperator fun u => u.setPanelLine line (if s.inReset then moved else moved.follow))

/-- A press begins (05 R91, R92): an action of scope all in the panel slot, or the SILENCE event. -/
def State.beginPress (s : State) : Press → State
  | .ack => s.beginAction (newAction .ack .panel .all none)
  | .reset => s.beginAction (newAction .reset .panel .all none)
  | .silence => s.silence .panel

/-- A press joins the waiting list, or is merged with a waiting press of its line (05 R92). -/
def joinPress (waiting : List Press) (x : Press) : List Press := if x ∈ waiting then waiting else waiting ++ [x]

/-- A press is begun at once when the slot is empty and no press waits, else it is queued (05 R91). -/
def State.takePress (s : State) (x : Press) : State :=
  if s.operator.slotPanel.isNone && s.operator.waiting.isEmpty then s.beginPress x
  else s.modifyOperator fun u => { u with waiting := joinPress u.waiting x }

/-- The press of a line, none for TEST (05 Table 5-1). -/
def linePress : PanelLine → Option Press
  | .ack => some .ack
  | .reset => some .reset
  | .silence => some .silence
  | .test => none

/-- The effect of a filtered transition of a panel line to a level (05 Table 5-1). -/
def State.takePanelTransition (s : State) (line : PanelLine) (active : Bool) : State :=
  match linePress line with
  | none => s.lampSources .panel fun u => { u with testLevel := active }
  | some x => if active then s.takePress x else s

/-- Whether the filter run of a panel line has reached 20 ms (05 R90). -/
def State.panelDue (s : State) (line : PanelLine) : Bool :=
  match (s.operator.panelLine line).run with
  | some e => decide (Config.panelFilterMs ≤ e)
  | none => false

/-- PANEL_FILTERED_TRANSITION (05 R90, R91). -/
def execPanelFilteredTransition (line : PanelLine) (s : State) : Host.Outcome State Fault Refusal :=
  .next (s.whenRunning fun s =>
    if s.panelDue line then
      let active := (s.operator.panelLine line).line
      ((s.modifyOperator fun u => u.setPanelLine line { line := active, filtered := active, run := none }).takePanelTransition
        line active).finish
    else s)

/-- PANEL_PRESS_BEGIN (05 R92): with the slot empty, the press at the head of the list leaves it and is begun. -/
def execPanelPressBegin (s : State) : Host.Outcome State Fault Refusal :=
  .next (s.whenRunning fun s =>
    match s.operator.slotPanel, s.operator.waiting with
    | none, x :: rest => ((s.modifyOperator fun u => { u with waiting := rest }).beginPress x).finish
    | none, [] => s
    | some _, _ => s)

/-! ### Operator requests (05 R93, R94, R100) -/

/-- The checks 6 to 8 of an ACK request (05 Table 5-3). -/
def State.ackRefusal (s : State) (src : Source) : Scope → Option Result
  | .point p =>
    match (s.point p).definition with
    | none => some .notDefined
    | some d =>
      if (s.point p).phase = .outOfService ∨ (s.point p).phase = .suppressed then some .wrongState
      else if s.groupPermits d.group src then none
      else some .notPermitted
  | .group g =>
    match (s.group g).definition with
    | none => some .notDefined
    | some d => if d.permits src then none else some .notPermitted
  | .all => none

/-- Begin the action of an operator request, or refuse it with counts of 0 (05 R94). -/
def State.operatorRequest (s : State) (kind : ActionKind) (l : Link) (tag : Byte) (zeros : List Byte) :
    Option Scope → State × Answer
  | none => (s, .reply .badArgument zeros)
  | some scope =>
    match s.ackRefusal (linkSource l) scope with
    | some r => (s, .reply r zeros)
    | none => (s.beginAction (newAction kind (linkSource l) scope (some tag)), .later)

/-- ACK (05 R94, R95). -/
def execAck (l : Link) (s : State) : Host.Outcome State Fault Refusal :=
  .next (s.serve l .ack anyRequest fun q s => s.operatorRequest .ack l q.tag [0] (ackScope q.body))

/-- RESET (05 R94, R97). -/
def execReset (l : Link) (s : State) : Host.Outcome State Fault Refusal :=
  .next (s.serve l .reset anyRequest fun q s => s.operatorRequest .reset l q.tag [0, 0] (resetScope q.body))

/-- The answer to a SILENCE request: OK with the latches cleared, NOTHING with none (05 R100). -/
def State.silenceAnswer (s : State) : Answer :=
  .reply (if s.output.horn || s.output.tone then .ok else .nothing) [latchCode s.output.horn s.output.tone]

/-- SILENCE (05 R100). -/
def execSilence (l : Link) (s : State) : Host.Outcome State Fault Refusal :=
  .next (s.serve l .silence anyRequest fun _ s => (s.silence (linkSource l), s.silenceAnswer))

/-- LAMP TEST acts on the host timer (06 R114). -/
def State.lampTestRequest (s : State) (l : Link) (seconds : Nat) : State × Answer :=
  if 60 < seconds then (s, .reply .badArgument [])
  else
    let t := s.lampSources (linkSource l) fun u =>
      { u with hostTimer := if seconds = 0 then none else some (seconds * 1000) }
    (t, .reply (if seconds = 0 ∧ s.output.hostTimer = none then .nothing else .ok)
      (boolCode t.output.lampTest :: be4 (t.output.hostTimer.getD 0)))

/-- LAMP_TEST (06 R114). -/
def execLampTest (l : Link) (s : State) : Host.Outcome State Fault Refusal :=
  .next (s.serve l .lampTest anyRequest fun q s => s.lampTestRequest l (byteAt q.body 0))

end Sys2Proof.Machine
end

