-- ==== Sys2Proof/Machine/Sessions.lean ====
section
/-! DEFINITION. The session unit and the clock requests (10 R177 to R179, 11, 08 R138): HELLO, BYE, CLAIM, RELEASE, RESTART,
SET TIME and the lease. -/

namespace Sys2Proof.Machine

/-! ### Sessions (10) -/

/-- The holder's authority is dropped as its session closes (10 R179 step 2). -/
def State.dropAuthority (s : State) (l : Link) : State :=
  if s.session.holder = some l then
    (s.modifySession SessionUnit.free).appendBare (.authority .dropped l) (linkSource l)
  else s

/-- The session of a link closes (10 R179). -/
def State.closeSession (s : State) (l : Link) (act : SessionAction) : State :=
  (((s.modifyDelivery l Delivery.close).dropAuthority l).modifySession fun u => u.setOpen l false).appendBare
    (.session act l) (linkSource l)

/-- The identity: vendor code 4Ah, part code "A48", revision 3 (10 R178). -/
def identityBytes : List Byte := [0x4A, 0x41, 0x34, 0x38, 0x03]

/-- HELLO's effect (10 R178): close an open session, open a new one. -/
def State.openSession (s : State) (l : Link) : State :=
  let closed := if s.session.isOpen l then s.closeSession l .closedHello else s
  (closed.modifySession fun u => u.setOpen l true).appendBare (.session .opened l) (linkSource l)

/-- The fields of a HELLO reply (10 R178, 12 Table 12-5). -/
def State.helloFields (s : State) : List Byte :=
  identityBytes ++ be4 s.generation.toNat ++ be4 s.oldestSeq.toNat ++ be4 s.newestSeq.toNat ++ [boolCode s.time.isSet]

/-- HELLO (10 R178). -/
def execHello (l : Link) (s : State) : Host.Outcome State Fault Refusal :=
  .next (s.serve l .hello anyRequest fun _ s => (s.openSession l, .reply .ok (s.openSession l).helloFields))

/-- BYE (10 R179). -/
def execBye (l : Link) (s : State) : Host.Outcome State Fault Refusal :=
  .next (s.serve l .bye anyRequest fun _ s => (s.closeSession l .closedBye, .reply .ok []))

/-! ### Authority (11) -/

/-- The authority fields of a CLAIM reply: the holder and the lease remaining, 0 when absent (11 R183). -/
def SessionUnit.claimFields (u : SessionUnit) : List Byte := linkCode u.holder :: be4 (u.lease.getD 0)

/-- The link becomes holder, with a full lease (11 R181, R183). -/
def SessionUnit.grant (u : SessionUnit) (l : Link) : SessionUnit :=
  { u with holder := some l, lease := some Config.leaseMs }

/-- A CLAIM (11 Table 11-1). -/
def State.claimRequest (s : State) (l : Link) : State × Answer :=
  match s.session.holder with
  | none =>
    let t := (s.modifySession fun u => u.grant l).appendBare (.authority .taken l) (linkSource l)
    (t, .reply .ok t.session.claimFields)
  | some h =>
    if h = l then
      let t := s.renewLease l
      (t, .reply .ok t.session.claimFields)
    else (s, .reply .heldByOther s.session.claimFields)

/-- CLAIM (11 R183). -/
def execClaim (l : Link) (s : State) : Host.Outcome State Fault Refusal :=
  .next (s.serve l .claim anyRequest fun _ s => s.claimRequest l)

/-- A RELEASE (11 R184). -/
def State.releaseRequest (s : State) (l : Link) : State × Answer :=
  if s.session.holder = some l then
    ((s.modifySession SessionUnit.free).appendBare (.authority .released l) (linkSource l), .reply .ok [linkCode none])
  else (s, .reply .nothing [linkCode s.session.holder])

/-- RELEASE (11 R184). -/
def execRelease (l : Link) (s : State) : Host.Outcome State Fault Refusal :=
  .next (s.serve l .release anyRequest fun _ s => s.releaseRequest l)

/-- The link whose lease is due (11 R182). -/
def SessionUnit.leaseDue (u : SessionUnit) : Option Link := if u.lease = some 0 then u.holder else none

/-- LEASE_EXPIRY (11 R182). -/
def execLeaseExpiry (s : State) : Host.Outcome State Fault Refusal :=
  .next (s.whenRunning fun s =>
    match s.session.leaseDue with
    | some l => ((s.modifySession SessionUnit.free).appendBare (.authority .expired l) .part).finish
    | none => s)

/-! ### Restart (11 R185) -/

/-- Discard every request waiting. -/
def noneWaiting (places : List Place) : List Place := places.filter fun x => (Place.request? x).isNone

/-- Discard the requests that wait behind the one being taken (11 R185 step 2). -/
def discardWaiting : List Place → List Place
  | [] => []
  | .waiting k t b :: rest => .waiting k t b :: noneWaiting rest
  | .inProgress k t :: rest => .inProgress k t :: discardWaiting rest
  | .ready r :: rest => .ready r :: discardWaiting rest
  | .onLine r :: rest => .onLine r :: discardWaiting rest

/-- A RESTART that the authority check has passed (11 R185). -/
def State.restartRequest (s : State) (l : Link) : State × Answer :=
  if s.session.restartPending.isSome then (s, .reply .wrongState [])
  else
    let marked := s.modifySession fun u => { u with restartPending := some l }
    (marked.setChain l { marked.chain l with places := discardWaiting (marked.chain l).places }, .reply .ok [])

/-- RESTART (11 R185). -/
def execRestart (l : Link) (s : State) : Host.Outcome State Fault Refusal :=
  .next (s.serve l .restart anyRequest fun _ s => s.restartRequest l)

/-! ### Setting the time (08 R138) -/

/-- The time a SET TIME carries, with the flag set; none for a millisecond of day out of range (08 R138). -/
def timeArg (body : List Byte) : Option Stamp :=
  if numberAt4 body 2 ≤ Config.lastMsOfDay then
    some { day := BitVec.ofNat 16 (numberAt2 body 0), ms := numberAt4 body 2, isSet := true }
  else none

/-- A SET TIME (08 R138). -/
def State.setTimeRequest (s : State) (l : Link) : Option Stamp → State × Answer
  | none => (s, .reply .badArgument [])
  | some t =>
    (({ s with time := t } : State).appendBare (.timeSet s.time) (linkSource l),
      .reply .ok (be4 s.nextSeq.toNat ++ s.time.bytes))

/-- SET_TIME (08 R138). -/
def execSetTime (l : Link) (s : State) : Host.Outcome State Fault Refusal :=
  .next (s.serve l .setTime anyRequest fun q s => s.setTimeRequest l (timeArg q.body))

end Sys2Proof.Machine
end

