-- ==== Sys2Proof/Machine/Resets.lean ====
section
/-! DEFINITION. The restarts: the effects of a warm restart on every block (11 R186), the end of a cold reset and the reset's
beginning (11 R187). -/

namespace Sys2Proof.Machine

/-! ### Warm restart (11 R186) -/

/-- The phase a warm restart leaves (03 R69). -/
def Phase.warm (ph : Phase) : Phase := if ph.sequencing || decide (ph = .suppressed) then .normal else ph

/-- Qualification restarts from the filtered level (02 R42): with an on-delay of 0 a RAISE becomes due. -/
def PointState.requalify (x : PointState) (d : PointDef) : PointState :=
  let y := x.unqualified
  match x.filtered with
  | .normal => y
  | .abnormal => if d.onDelay = 0 then { y with restartRaise := true } else { y with delay := d.startOnDelay }

/-- A point across a warm restart (02 R42, 03 R69, 06 R123, 07 R135); filtered level and filter run are kept. -/
def PointState.warm (x : PointState) : PointState :=
  let y : PointState :=
    match x.definition with
    | some d => if x.phase.sequencing || decide (x.phase = .suppressed) then x.requalify d else x
    | none => x
  { y.quiet with phase := x.phase.warm, realert := none, shownPhase := x.phase.warm, shownMark := false }

/-- A chain across a warm restart (09 R153, 10 R180): a frame on the line runs on. -/
def Chain.warm (c : Chain) : Chain := { rx := .cold, places := [], line := c.line, delivery := c.delivery.close }

/-- The operator unit across a warm restart (05 R107). -/
def OperatorUnit.warm (u : OperatorUnit) : OperatorUnit :=
  { u with slotPanel := none, slotA := none, slotB := none, waiting := [] }

/-- The output unit across a warm restart (06 R123). -/
def OutputUnit.warm (u : OutputUnit) : OutputUnit := { u with horn := false, tone := false, hostTimer := none }

/-- The session unit across a warm restart (11 R186). -/
def SessionUnit.warm (u : SessionUnit) : SessionUnit :=
  { openA := false, openB := false, holder := none, lease := none, restartPending := none,
    lastColdReset := u.lastColdReset }

/-- The warm restart takes effect (11 R186): every block, then the START record (08 R148). -/
def State.warmRestart (s : State) : State :=
  ({ s with points := s.points.map PointState.warm,
            groups := s.groups.map fun g => { g with firstOut := none },
            alarmList := [], operator := s.operator.warm, output := s.output.warm, session := s.session.warm,
            chainA := s.chainA.warm, chainB := s.chainB.warm } : State).appendBare (.start .restart) .part

/-! ### Cold reset (11 R187) -/

/-- The source a START record names: POWER when power came up in this reset, else LINE (08 R147, 11 R187). -/
def State.coldSource (s : State) : ResetCause → ResetCause
  | .power => .power
  | .line => if s.inReset then s.resetSource else .line

/-- A panel line at the end of cold reset (05 R107): filtered as it stands, no run. -/
def PanelInput.settled (x : PanelInput) : PanelInput := { line := x.line, filtered := x.line, run := none }

/-- Every block at its cold-reset values, with the pins as they stand (11 R187, 01 R20, 02 R41, 03 R68, 04 R87, 05 R107,
06 R122, 07 R135, 08 R137, R147, 09 R153, 10 R180). -/
def State.cold (s : State) (source : ResetCause) (rate : LineRate) : State :=
  { State.reset with
    pending := s.pending, choices := s.choices, resetSource := source, rate := rate,
    points := s.points.map fun x => { PointState.cold with line := x.line },
    operator := { OperatorUnit.cold with
      ack := s.operator.ack.settled, silence := s.operator.silence.settled,
      reset := s.operator.reset.settled, test := s.operator.test.settled },
    output := { OutputUnit.cold with testLevel := s.operator.test.line },
    session := { SessionUnit.cold with lastColdReset := source },
    journal := [Record.coldStart (resetStart source)], nextSeq := 2 }

/-- COLD_RESET (11 R187, 06 R122): a TEST line held through it makes lamp test active, with LAMP_TEST_ON after START. -/
def execColdReset (cause : ResetCause) (rate1 rate0 : Bool) (s : State) : Host.Outcome State Fault Refusal :=
  let t := s.cold (s.coldSource cause) (strapRate rate1 rate0)
  .next (if t.output.testLevel then t.appendBare .lampTestOn .panel else t)

/-- RESET_ASSERTED (11 R187): the part is held in reset, and its transmit lines go to rest; the rest of the state is not
observable until the reset ends (log 9). -/
def execResetAsserted (cause : ResetCause) (s : State) : Host.Outcome State Fault Refusal :=
  .next { s with
    supply := s.supply && decide (cause ≠ .power),
    rstnActive := s.rstnActive || decide (cause = .line),
    resetSource := if cause = .power then .power else if s.inReset then s.resetSource else .line,
    chainA := { s.chainA with line := none },
    chainB := { s.chainB with line := none } }

end Sys2Proof.Machine
end

