-- ==== Sys2Proof/Machine/Links.lean ====
section
/-! DEFINITION. The link units' own events (10): a byte arrives, the inter-byte timer expires, a frame has been sent. -/

namespace Sys2Proof.Machine

/-! ### The receiver (10 R170 to R172) -/

/-- A good byte reaches a receiver (10 Table 10-2): its new value, and the frame the byte completed, if any. -/
def Receiver.take (x : Receiver) (b : Byte) : Receiver × Option Request :=
  match x.state with
  | .hunt => (if b = 0xA5 then { state := .length, crc := 0xFFFF, due := 0, frame := [], timer := some 0 } else x, none)
  | .length =>
    (if b.toNat ≤ Config.maxBody then
      { state := .header, crc := crcByte x.crc b, due := b.toNat, frame := [b], timer := some 0 }
     else .cold, none)
  | .header =>
    ({ state := if x.frame.length < 2 then .header else if x.due = 0 then .check else .body,
       crc := crcByte x.crc b, due := x.due, frame := x.frame ++ [b], timer := some 0 }, none)
  | .body =>
    ({ state := if x.due ≤ 1 then .check else .body,
       crc := crcByte x.crc b, due := x.due - 1, frame := x.frame ++ [b], timer := some 0 }, none)
  | .check =>
    let len := byteAt x.frame 0
    if x.frame.length = 3 + len then
      ({ state := .check, crc := x.crc, due := x.due, frame := x.frame ++ [b], timer := some 0 }, none)
    else
      (.cold,
        if numberAt2 (x.frame ++ [b]) (3 + len) = x.crc.toNat then
          some { kind := x.frame.getD 1 0, tag := x.frame.getD 2 0, body := (x.frame.drop 3).take len }
        else none)

/-- A byte with a stop-bit error ends a frame in progress, and is ignored in HUNT (10 R171). -/
def Receiver.stopError (x : Receiver) : Receiver :=
  match x.state with
  | .hunt => x
  | .length => .cold
  | .header => .cold
  | .body => .cold
  | .check => .cold

/-- Replace the receiver of a link. -/
def State.setReceiver (s : State) (l : Link) (x : Receiver) : State := s.setChain l { s.chain l with rx := x }

/-- A complete frame is handed to the link unit (10 R173). -/
def State.takeFrame (s : State) (l : Link) (q : Request) : State :=
  if s.session.restartPending = some l then s
  else if requestKind q.kind = some .confirm then s.confirmFrame l q.body
  else if (s.chain l).places.length < Config.replyPlaces then
    s.setChain l { s.chain l with places := (s.chain l).places ++ [.waiting q.kind q.tag q.body] }
  else s

/-- BYTE_ARRIVAL (10 R168, R170, R171, R173); a byte that arrives in reset is lost (11 R187). -/
def execByteArrival (l : Link) (data : Byte) (stopGood : Bool) (s : State) : Host.Outcome State Fault Refusal :=
  .next (s.whenRunning fun s =>
    if stopGood then
      let taken := (s.chain l).rx.take data
      match taken.2 with
      | some q => (s.setReceiver l taken.1).takeFrame l q
      | none => s.setReceiver l taken.1
    else s.setReceiver l (s.chain l).rx.stopError)

/-- Whether the inter-byte timer has reached 50 ms (10 R172). -/
def Receiver.timedOut (x : Receiver) : Bool :=
  match x.timer with
  | some e => decide (Config.interByteMs ≤ e)
  | none => false

/-- INTER_BYTE_TIMEOUT (10 R172). -/
def execInterByteTimeout (l : Link) (s : State) : Host.Outcome State Fault Refusal :=
  .next (s.whenRunning fun s => if (s.chain l).rx.timedOut then s.setReceiver l .cold else s)

/-! ### The end of a frame (10 R176) -/

/-- The reply on the line, if the frame on the line is a reply. -/
def replyOnLine : List Place → Option Reply
  | [] => none
  | .onLine r :: _ => some r
  | .waiting _ _ _ :: rest => replyOnLine rest
  | .inProgress _ _ :: rest => replyOnLine rest
  | .ready _ :: rest => replyOnLine rest

/-- The place of the reply on the line becomes free (10 R173, R176). -/
def freeOnLine : List Place → List Place
  | [] => []
  | .onLine _ :: rest => rest
  | .waiting k t b :: rest => .waiting k t b :: freeOnLine rest
  | .inProgress k t :: rest => .inProgress k t :: freeOnLine rest
  | .ready r :: rest => .ready r :: freeOnLine rest

/-- Whether a reply is that of an accepted RESTART (11 R185, R186). -/
def Reply.restarts (r : Reply) : Bool := decide (r.kind = ReqKind.restart.code) && decide (r.result = .ok)

/-- The line is free, and the place of a reply that has been sent with it. -/
def State.freeLine (s : State) (l : Link) : State :=
  s.setChain l { s.chain l with places := freeOnLine (s.chain l).places, line := none }

/-- TRANSMIT_END (10 R176, 11 R186). -/
def execTransmitEnd (l : Link) (s : State) : Host.Outcome State Fault Refusal :=
  .next (s.whenRunning fun s =>
    match (s.chain l).line with
    | none => s
    | some _ =>
      let restarts := ((replyOnLine (s.chain l).places).map Reply.restarts).getD false
      ((if restarts then (s.freeLine l).warmRestart else s.freeLine l)).startTx l)

end Sys2Proof.Machine
end

