-- ==== Sys2Proof/Machine/Reading.lean ====
section
/-! DEFINITION. The requests that only read (01 R18, R19; 04 R84, R85; 08 R149, R150; 11 R188), with the layouts of
12 Table 12-5. -/

namespace Sys2Proof.Machine

/-! ### READ POINT (01 R18, 02 R39) -/

/-- Whether qualification holds state for a point in this phase: in service or SUPPRESSED (02 R26). -/
def Phase.qualifies (ph : Phase) : Bool := ph.sequencing || decide (ph = .suppressed)

/-- The definition block: bytes 1 to 12 + n of a DEFINE POINT body; twelve bytes for an undefined point (12 Table 12-5). -/
def pointBlock : Option PointDef → List Byte
  | some d =>
    [byte d.group.val, d.sense.code, byte d.filterMs] ++ be2 d.onDelay ++ be2 d.offDelay ++
      [d.mode.code, byte d.chatterLimit] ++ be2 d.chatterWindow ++ [byte d.label.length] ++ d.label
  | none => List.replicate 11 0xFF ++ [0x00]

/-- The level bytes: line level and filtered level, absent when undefined (01 Table 1-4). -/
def PointState.levelBytes (x : PointState) : List Byte :=
  match x.definition with
  | some d => [(x.lineLevel d).code, x.filtered.code]
  | none => [absentByte, absentByte]

/-- Qualified condition, delay state and elapsed time: absent when undefined or OUT_OF_SERVICE (01 Table 1-4, 02 R39). -/
def PointState.qualificationBytes (x : PointState) : List Byte :=
  if x.phase.qualifies then [x.qualified.code, x.delay.code] ++ be4 (x.delay.elapsed x.accumulated)
  else [absentByte, absentByte] ++ timeBytes none

/-- The accumulated time: absent for an undefined point, 0 out of service (02 R39, 12 R191; log 24). -/
def PointState.accumulatedBytes (x : PointState) : List Byte :=
  match x.definition with
  | some _ => be4 x.accumulated
  | none => timeBytes none

/-- Whether a point is its group's first-out point (01 Table 1-4). -/
def State.isFirstOut (s : State) (p : Point) : Bool :=
  match s.groupOf p with
  | some g => decide ((s.group g).firstOut = some p)
  | none => false

/-- The fields of a READ POINT reply (12 Table 12-5). -/
def State.pointFields (s : State) (p : Point) : List Byte :=
  let x := s.point p
  [byte p.val, boolCode x.definition.isSome, x.phase.code] ++ pointBlock x.definition ++ x.levelBytes ++
    x.qualificationBytes ++ x.accumulatedBytes ++ [byte x.raiseCount] ++ timeBytes x.window ++ timeBytes x.restore ++
    timeBytes x.realert ++ [boolCode (s.isFirstOut p)] ++ be4 s.generation.toNat

/-- READ_POINT (01 R18). -/
def execReadPoint (l : Link) (s : State) : Host.Outcome State Fault Refusal :=
  .next (s.serve l .readPoint anyRequest fun q s =>
    match asPoint (byteAt q.body 0) with
    | some p => (s, .reply .ok (s.pointFields p))
    | none => (s, .reply .badArgument []))

/-! ### READ GROUP (01 R19) -/

/-- The definition of a group: bytes 1 to 5 of a DEFINE GROUP body; FFh for an undefined group (12 Table 12-5). -/
def groupBlock : Option GroupDef → List Byte
  | some d => [d.sequence.code, boolCode d.firstOutEnabled, boolCode d.audible, d.sourcesCode, byte d.realertMinutes]
  | none => List.replicate 5 0xFF

/-- The fields of a READ GROUP reply (12 Table 12-5). -/
def State.groupFields (s : State) (g : Group) : List Byte :=
  let x := s.group g
  let inService := (s.members g).filter fun p => (s.point p).phase.qualifies
  [byte g.val, boolCode x.definition.isSome] ++ groupBlock x.definition ++ [pointCode x.firstOut] ++
    be4 s.generation.toNat ++ [byte inService.length, byte (s.members g).length] ++
    (s.members g).map fun p => byte p.val

/-- READ_GROUP (01 R19). -/
def execReadGroup (l : Link) (s : State) : Host.Outcome State Fault Refusal :=
  .next (s.serve l .readGroup anyRequest fun q s =>
    match asGroup (byteAt q.body 0) with
    | some g => (s, .reply .ok (s.groupFields g))
    | none => (s, .reply .badArgument []))

/-! ### READ LIST (04 R84, R85) -/

/-- The page of the alarm list from a start index (04 R85). -/
def State.listPage (s : State) (start most : Nat) : List Entry := (s.alarmList.drop start).take most

/-- The fields of a READ LIST reply (12 Table 12-5). -/
def State.listFields (s : State) (start most : Nat) : List Byte :=
  let page := s.listPage start most
  [byte s.alarmList.length, byte start, byte page.length] ++ be4 s.newestSeq.toNat ++ page.flatMap Entry.bytes

/-- READ_LIST (04 R84, R85). -/
def execReadList (l : Link) (s : State) : Host.Outcome State Fault Refusal :=
  .next (s.serve l .readList anyRequest fun q s =>
    match inRange 1 8 (byteAt q.body 1) with
    | some most => (s, .reply .ok (s.listFields (byteAt q.body 0) most))
    | none => (s, .reply .badArgument []))

/-! ### READ JOURNAL (08 R149, R150) -/

/-- The first place of a READ JOURNAL page in the journal, and TRUNCATED; none for BAD_ARGUMENT (08 R149). -/
def State.journalStart (s : State) (n : Seq) : Option (Nat × Bool) :=
  if n = 0 then none
  else
    match s.position n with
    | .held => some (forward s.oldestSeq n, false)
    | .next => some (s.journal.length, false)
    | .behind => some (0, true)
    | .ahead => none

/-- The records of a page (08 R150). -/
def State.journalPage (s : State) (first most : Nat) : List Record := (s.journal.drop first).take most

/-- The fields of a READ JOURNAL reply (12 Table 12-5). -/
def State.journalFields (s : State) (first most : Nat) (truncated : Bool) : List Byte :=
  let page := s.journalPage first most
  boolCode truncated :: (be4 s.oldestSeq.toNat ++ be4 s.newestSeq.toNat ++ [byte page.length] ++
    page.flatMap Record.bytes)

/-- READ_JOURNAL (08 R149, R150). -/
def execReadJournal (l : Link) (s : State) : Host.Outcome State Fault Refusal :=
  .next (s.serve l .readJournal anyRequest fun q s =>
    match inRange 1 8 (byteAt q.body 4), s.journalStart (BitVec.ofNat 32 (numberAt4 q.body 0)) with
    | some most, some (first, truncated) => (s, .reply .ok (s.journalFields first most truncated))
    | some _, none => (s, .reply .badArgument [])
    | none, _ => (s, .reply .badArgument []))

/-! ### READ STATUS (11 R188) -/

/-- One delivery unit in a READ STATUS reply (12 Table 12-5). -/
def Delivery.statusBytes (d : Delivery) : List Byte :=
  [d.state.code] ++ seqBytes d.confirmed ++ seqBytes d.next ++ [byte d.retry]

/-- The fields of a READ STATUS reply (11 Table 11-3, 12 Table 12-5). -/
def State.statusFields (s : State) : List Byte :=
  identityBytes ++ [resetCode s.session.lastColdReset, s.rate.code] ++ s.time.bytes ++ be4 s.generation.toNat ++
    be4 s.oldestSeq.toNat ++ be4 s.newestSeq.toNat ++ [boolCode s.session.openA, boolCode s.session.openB] ++
    s.session.claimFields ++ [linkCode s.session.restartPending] ++ s.chainA.delivery.statusBytes ++
    s.chainB.delivery.statusBytes ++ [boolCode s.output.horn, boolCode s.output.tone, boolCode s.common] ++
    [boolCode s.output.lampTest, boolCode s.output.testLevel] ++ be4 (s.output.hostTimer.getD 0) ++
    [byte s.alarmList.length]

/-- READ_STATUS (11 R188). -/
def execReadStatus (l : Link) (s : State) : Host.Outcome State Fault Refusal :=
  .next (s.serve l .readStatus anyRequest fun _ s => (s, .reply .ok s.statusFields))

end Sys2Proof.Machine
end

