-- ==== Sys2Proof/Machine/TimeBase.lean ====
section
/-! DEFINITION. The time base (08 R136): one millisecond, and the end of a day. -/

namespace Sys2Proof.Machine

/-- The day ends: the millisecond of day becomes 0 and the day advances, from 65535 to 0 (08 R136). -/
def Stamp.rollover (t : Stamp) : Stamp := { t with day := t.day + 1, ms := 0 }

/-- DAY_ROLLOVER (08 R136): taken when the millisecond of day would reach 86,400,000 (log 6). -/
def execDayRollover (s : State) : Host.Outcome State Fault Refusal :=
  .next (s.whenRunning fun s =>
    if s.time.ms = Config.lastMsOfDay then { s with time := s.time.rollover } else s)

end Sys2Proof.Machine
end

