-- ==== Sys2Proof/Machine/Dispatch.lean ====
section
/-! DEFINITION. The dispatch: each command of the table to its meaning. -/

namespace Sys2Proof.Machine

/-- The effect of a command on everything but the queue. -/
def exec (i : Instr) (s : State) : Host.Outcome State Fault Refusal :=
  match i with
  | .coldReset cause rate1 rate0 => Sys2Proof.Machine.execColdReset cause rate1 rate0 s
  | .inputLineChange p active => Sys2Proof.Machine.execInputLineChange p active s
  | .filteredTransition p => Sys2Proof.Machine.execFilteredTransition p s
  | .onDelayExpiry p => Sys2Proof.Machine.execOnDelayExpiry p s
  | .offDelayExpiry p => Sys2Proof.Machine.execOffDelayExpiry p s
  | .accumulationExpiry p => Sys2Proof.Machine.execAccumulationExpiry p s
  | .forgetTimerExpiry p => Sys2Proof.Machine.execForgetTimerExpiry p s
  | .restartRaise p => Sys2Proof.Machine.execRestartRaise p s
  | .realertExpiry p => Sys2Proof.Machine.execRealertExpiry p s
  | .chatterWindowExpiry p => Sys2Proof.Machine.execChatterWindowExpiry p s
  | .restoreTimerExpiry p => Sys2Proof.Machine.execRestoreTimerExpiry p s
  | .patternCycleWrap => Sys2Proof.Machine.execPatternCycleWrap s
  | .dayRollover => Sys2Proof.Machine.execDayRollover s
  | .panelLineChange line active => Sys2Proof.Machine.execPanelLineChange line active s
  | .panelFilteredTransition line => Sys2Proof.Machine.execPanelFilteredTransition line s
  | .panelPressBegin => Sys2Proof.Machine.execPanelPressBegin s
  | .ackWalkEvent src => Sys2Proof.Machine.execAckWalkEvent src s
  | .resetGroupExamine src => Sys2Proof.Machine.execResetGroupExamine src s
  | .resetMemberEvent src => Sys2Proof.Machine.execResetMemberEvent src s
  | .firstOutClearing src => Sys2Proof.Machine.execFirstOutClearing src s
  | .lampTestHostExpiry => Sys2Proof.Machine.execLampTestHostExpiry s
  | .leaseExpiry => Sys2Proof.Machine.execLeaseExpiry s
  | .retransmissionExpiry l => Sys2Proof.Machine.execRetransmissionExpiry l s
  | .byteArrival l data stopGood => Sys2Proof.Machine.execByteArrival l data stopGood s
  | .interByteTimeout l => Sys2Proof.Machine.execInterByteTimeout l s
  | .transmitEnd l => Sys2Proof.Machine.execTransmitEnd l s
  | .hello l => Sys2Proof.Machine.execHello l s
  | .bye l => Sys2Proof.Machine.execBye l s
  | .unknownKindRequest l => Sys2Proof.Machine.execUnknownKindRequest l s
  | .claim l => Sys2Proof.Machine.execClaim l s
  | .release l => Sys2Proof.Machine.execRelease l s
  | .restart l => Sys2Proof.Machine.execRestart l s
  | .readStatus l => Sys2Proof.Machine.execReadStatus l s
  | .defineGroup l => Sys2Proof.Machine.execDefineGroup l s
  | .undefineGroup l => Sys2Proof.Machine.execUndefineGroup l s
  | .definePoint l => Sys2Proof.Machine.execDefinePoint l s
  | .undefinePoint l => Sys2Proof.Machine.execUndefinePoint l s
  | .setServiceOut l => Sys2Proof.Machine.execSetServiceOut l s
  | .setServiceIn l => Sys2Proof.Machine.execSetServiceIn l s
  | .restore l => Sys2Proof.Machine.execRestore l s
  | .setTime l => Sys2Proof.Machine.execSetTime l s
  | .ack l => Sys2Proof.Machine.execAck l s
  | .reset l => Sys2Proof.Machine.execReset l s
  | .silence l => Sys2Proof.Machine.execSilence l s
  | .lampTest l => Sys2Proof.Machine.execLampTest l s
  | .readPoint l => Sys2Proof.Machine.execReadPoint l s
  | .readGroup l => Sys2Proof.Machine.execReadGroup l s
  | .readList l => Sys2Proof.Machine.execReadList l s
  | .readJournal l => Sys2Proof.Machine.execReadJournal l s
  | .subscribe l => Sys2Proof.Machine.execSubscribe l s
  | .unsubscribe l => Sys2Proof.Machine.execUnsubscribe l s
  | .confirm l body => Sys2Proof.Machine.execConfirm l body s
  | .resetAsserted cause => Sys2Proof.Machine.execResetAsserted cause s

end Sys2Proof.Machine
end

