-- ==== Sys2Proof/Machine/Idle.lean ====
section
/-! DEFINITION. What the part does by itself while no command waits (log 3, 4): one of its own steps that is due, or else one
millisecond. -/

namespace Sys2Proof.Machine

/-! ### One millisecond -/

/-- A timer that counts remaining time loses one millisecond. -/
def countDown : Option Nat → Option Nat
  | some n => some (n - 1)
  | none => none

/-- A timer that counts elapsed time gains one millisecond. -/
def countUp : Option Nat → Option Nat
  | some n => some (n + 1)
  | none => none

/-- The timer of a delay state gains one millisecond; the accumulation has none of its own (02 R26, R32). -/
def Delay.tick : Delay → Delay
  | .idle => .idle
  | .onDelay e => .onDelay (e + 1)
  | .accumulating => .accumulating
  | .offDelay e => .offDelay (e + 1)
  | .forget e => .forget (e + 1)

/-- The timers of a point advance (02 R23, R26, R32; 03 R57; 07 R124). -/
def PointState.tick (x : PointState) : PointState :=
  { x with
    filterRun := countUp x.filterRun, delay := x.delay.tick,
    accumulated := if x.delay = .accumulating then x.accumulated + 1 else x.accumulated,
    window := countDown x.window, restore := countDown x.restore, realert := countDown x.realert }

/-- The filter of a panel line advances (05 R90). -/
def PanelInput.tick (x : PanelInput) : PanelInput := { x with run := countUp x.run }

/-- The timers of a chain advance: inter-byte, line, retransmission (10 R172, R176; 09 R152). -/
def Chain.tick (c : Chain) : Chain :=
  { c with
    rx := { c.rx with timer := countUp c.rx.timer },
    line := c.line.map fun f => { f with elapsed := f.elapsed + 1 },
    delivery := { c.delivery with timer := countDown c.delivery.timer } }

/-- Every timer advances but the two counters that wrap and the host lamp-test timer. -/
def State.tickTimers (s : State) : State :=
  { s with
    points := s.points.map PointState.tick,
    operator := { s.operator with
      ack := s.operator.ack.tick, silence := s.operator.silence.tick,
      reset := s.operator.reset.tick, test := s.operator.test.tick },
    session := { s.session with lease := countDown s.session.lease },
    chainA := s.chainA.tick, chainB := s.chainB.tick }

/-- The millisecond of day advances; at the day's last millisecond DAY_ROLLOVER is put in the queue in its place (08 R136;
log 6). DESIGN CHOICE: the rollover is taken ahead of every step of the part due in that millisecond (log 32). -/
def State.tickDay (s : State) : State :=
  if s.time.ms = Config.lastMsOfDay then { s with pending := s.pending ++ [.dayRollover] }
  else { s with time := { s.time with ms := s.time.ms + 1 } }

/-- The cycle position advances; at the last position PATTERN_CYCLE_WRAP is put in the queue in its place (06 R108; log 6).
DESIGN CHOICE: the wrap is taken ahead of every step of the part due in that millisecond (log 32). -/
def State.tickCycle (s : State) : State :=
  if s.output.cycle = Config.lastCycle then { s with pending := s.pending ++ [.patternCycleWrap] }
  else s.modifyOutput fun u => { u with cycle := u.cycle + 1 }

/-- The host lamp-test timer runs down to 1 ms; in its last millisecond LAMP_TEST_HOST_EXPIRY is put in the queue in its place,
so that a running timer has from 1 ms remaining (06 R112, R115; log 6). DESIGN CHOICE: the expiry is taken ahead of every step of
the part due in that millisecond, a filtered transition of the TEST line among them, and not by `Config.eventChoice`; the spec fixes
no order of the two (log 32). -/
def State.tickHost (s : State) : State :=
  if s.output.hostDue then { s with pending := s.pending ++ [.lampTestHostExpiry] }
  else s.modifyOutput fun u => { u with hostTimer := countDown u.hostTimer }

/-- One millisecond passes (02 R40; log 4). DESIGN CHOICE: what the tick queues is taken in the order rollover, wrap, expiry, and
ahead of every step that is due (log 32). -/
def State.tick (s : State) : State := s.tickTimers.tickDay.tickCycle.tickHost

/-! ### The part's own steps that are due -/

/-- A step, when its condition holds. -/
def dueWhen (b : Bool) (i : Instr) : List Instr := if b then [i] else []

/-- The steps of a point that are due (02 R23, R29, R32, R34, R42; 03 R59; 07 R126, R129). -/
def State.pointDue (s : State) (p : Point) : List Instr :=
  dueWhen (s.filterDue p).isSome (.filteredTransition p) ++ dueWhen (s.onDelayDue p).isSome (.onDelayExpiry p) ++
    dueWhen (s.offDelayDue p).isSome (.offDelayExpiry p) ++ dueWhen (s.accumulationDue p).isSome (.accumulationExpiry p) ++
    dueWhen (s.forgetDue p).isSome (.forgetTimerExpiry p) ++
    dueWhen ((s.point p).restartRaise && (s.point p).definition.isSome) (.restartRaise p) ++
    dueWhen (s.realertDue p) (.realertExpiry p) ++
    dueWhen (decide ((s.point p).window = some 0)) (.chatterWindowExpiry p) ++
    dueWhen (s.restoreDue p) (.restoreTimerExpiry p)

/-- The next event of the action in the slot of a source (05 R88, R95, R97). -/
def State.slotDue (s : State) (src : Source) : List Instr :=
  match s.operator.slot src with
  | none => []
  | some a =>
    match a.pos with
    | .ackAt _ => [.ackWalkEvent src]
    | .examine _ => [.resetGroupExamine src]
    | .member _ _ => [.resetMemberEvent src]
    | .clearing _ => [.firstOutClearing src]

/-- The steps of the operator unit that are due (05 R90, R92). -/
def State.operatorDue (s : State) : List Instr :=
  dueWhen (s.panelDue .ack) (.panelFilteredTransition .ack) ++
    dueWhen (s.panelDue .silence) (.panelFilteredTransition .silence) ++
    dueWhen (s.panelDue .reset) (.panelFilteredTransition .reset) ++
    dueWhen (s.panelDue .test) (.panelFilteredTransition .test) ++
    dueWhen (s.operator.slotPanel.isNone && !s.operator.waiting.isEmpty) .panelPressBegin ++
    s.slotDue .panel ++ s.slotDue .linkA ++ s.slotDue .linkB

/-- The command that takes a request of a kind (10 R174). -/
def kindCommand (l : Link) (q : Request) : ReqKind → Instr
  | .hello => .hello l
  | .bye => .bye l
  | .claim => .claim l
  | .release => .release l
  | .restart => .restart l
  | .readStatus => .readStatus l
  | .defineGroup => .defineGroup l
  | .undefineGroup => .undefineGroup l
  | .definePoint => .definePoint l
  | .undefinePoint => .undefinePoint l
  | .setService => if asksIn q then .setServiceIn l else .setServiceOut l
  | .restore => .restore l
  | .setTime => .setTime l
  | .ack => .ack l
  | .reset => .reset l
  | .silence => .silence l
  | .lampTest => .lampTest l
  | .readPoint => .readPoint l
  | .readGroup => .readGroup l
  | .readList => .readList l
  | .readJournal => .readJournal l
  | .subscribe => .subscribe l
  | .unsubscribe => .unsubscribe l
  | .confirm => .confirm l q.body

/-- The request of a link that is next to be taken (10 R174). -/
def State.requestDue (s : State) (l : Link) : List Instr :=
  match (s.chain l).nextRequest with
  | none => []
  | some q =>
    match requestKind q.kind with
    | some k => [kindCommand l q k]
    | none => [.unknownKindRequest l]

/-- Whether the last byte of a frame of `n` bytes, ten bits each, has been sent after `ms` (10 R167, R168; log 5). -/
def LineRate.sent (rate : LineRate) (n ms : Nat) : Bool := decide (n * 10000 ≤ ms * rate.baud)

/-- Whether the frame on a line has been sent. -/
def State.lineDue (s : State) (l : Link) : Bool :=
  match (s.chain l).line with
  | some f => s.rate.sent f.bytes.length f.elapsed
  | none => false

/-- The steps of a link's chain that are due (09 R161; 10 R172, R174, R176). -/
def State.linkDue (s : State) (l : Link) : List Instr :=
  dueWhen (s.chain l).delivery.expired (.retransmissionExpiry l) ++
    dueWhen (s.chain l).rx.timedOut (.interByteTimeout l) ++ dueWhen (s.lineDue l) (.transmitEnd l) ++ s.requestDue l

/-- Every step of the part's own that is due. -/
def State.due (s : State) : List Instr :=
  everyPoint.flatMap s.pointDue ++ s.operatorDue ++ dueWhen s.session.leaseDue.isSome .leaseExpiry ++ s.linkDue .a ++ s.linkDue .b

/-! ### Idling -/

/-- One of several steps due together is put in the queue: which one, the spec leaves open (log 3). What a tick queues is no part
of this choice (log 32). -/
def State.choose (s : State) (steps : List Instr) : State :=
  { s with pending := s.pending ++ (steps[Config.eventChoice s.choices % steps.length]?).toList, choices := s.choices + 1 }

/-- On an empty queue: nothing in reset (11 R187); the one step that is due, a free choice among several, or one millisecond
(log 3). -/
def State.idle (s : State) : State :=
  if s.inReset then s
  else
    match s.due with
    | [] => s.tick
    | [i] => { s with pending := s.pending ++ [i] }
    | i :: j :: rest => s.choose (i :: j :: rest)

end Sys2Proof.Machine
end

