-- ==== Sys2Proof/Safety.lean ====
section
/-! DEFINITION. The terms the statements use: what an event adds to the journal, how a request is answered, what an event leaves
alone, and the invariants the spec gives the part. -/

namespace Sys2Proof.Machine

/-! ### What an event adds to the journal -/

/-- What one record says, but for its number and stamp: kind, source, point, group (08 Table 8-1). -/
abbrev Item := RecordKind × Source × Option Point × Option Group

/-- The records of one event: consecutive numbers from `n`, one stamp (08 R140, R143). -/
def recordsFrom (n : Seq) (stamp : Stamp) : List Item → List Record
  | [] => []
  | (k, src, p, g) :: rest =>
    { seq := n, stamp := stamp, kind := k, source := src, point := p, group := g } :: recordsFrom (seqNext n) stamp rest

/-- The number `k` places after `n` along the cycle (08 R142). -/
def seqAfter : Nat → Seq → Seq
  | 0, n => n
  | k + 1, n => seqAfter k (seqNext n)

/-- The newest 1024 of a list of records (08 R143, R145). -/
def newest (j : List Record) : List Record := j.drop (j.length - Config.journalCapacity)

/-- From `s` to `t` the journal takes exactly these records, stamped with the time of `t`, and drops its oldest for want of
room (08 R140, R142, R143, R145). -/
def Grows (s t : State) (items : List Item) : Prop :=
  t.journal = newest (s.journal ++ recordsFrom s.nextSeq t.time items) ∧ t.nextSeq = seqAfter items.length s.nextSeq

/-! ### Requests and replies -/

/-- A request stands next to be taken on the link of a running part and passes checks 1, 3 and 4 (10 Table 10-3). -/
structure Accepts (s : State) (l : Link) (k : ReqKind) (tag : Byte) (body : List Byte) : Prop where
  running : s.inReset = false
  next : (s.chain l).nextRequest = some { kind := k.code, tag := tag, body := body }
  session : k ≠ .hello → s.session.isOpen l = true
  format : k.formatOk body = true
  authority : k.needsAuthority = true → s.session.holder = some l
  journal : s.journal.length ≤ Config.journalCapacity

/-- The lease timer after a request of the link is taken (11 R182). -/
def State.leaseAfter (s : State) (l : Link) : Option Nat :=
  if s.session.holder = some l then some Config.leaseMs else s.session.lease

/-- The session unit after a request of the link is taken (11 R182). -/
def State.sessionAfter (s : State) (l : Link) : SessionUnit := { s.session with lease := s.leaseAfter l }

/-- The places of a link with the oldest request waiting answered (10 R173, R174). -/
def Chain.answered (c : Chain) (r : Reply) : List Place := replaceFirst (Place.answerWith r) c.places

/-- From `c` to `d` the reply queue has become `places`; while the line was free, the oldest reply waiting has begun its
transmission (10 R176). The receiver is untouched. -/
def Shows (c d : Chain) (places : List Place) : Prop :=
  d.rx = c.rx ∧
    match c.line with
    | some f => d.places = places ∧ d.line = some f
    | none =>
      d.places = replaceFirst Place.toLine places ∧
        d.line = (firstReady places).map fun r => { bytes := r.frame, elapsed := 0 }

/-- What an event that only appends leaves of a chain: the receiver, the delivery's state and retry count, a frame on the line,
and the reply queue, unless the line stood free with a reply waiting. -/
def Undisturbed (c d : Chain) : Prop :=
  d.rx = c.rx ∧ d.delivery.state = c.delivery.state ∧ d.delivery.retry = c.delivery.retry ∧
    (c.line.isSome = true → d.line = c.line) ∧
    (c.line.isSome = true ∨ firstReady c.places = none → d.places = c.places)

/-- From `c` to `d` the transmitter of a link has been tested once, by an event of state `s` (10 R176): while the line is busy, or
with nothing to send, the chain stands; else the line takes the oldest reply waiting or, failing one, the report at the head of the
offer list, with the cursors as they stand (09 R156, 12 R193). -/
def Transmits (s : State) (c d : Chain) : Prop :=
  (c.line.isSome = true → d = c) ∧
  (∀ r, c.line = none → firstReady c.places = some r →
    d = { c with places := replaceFirst Place.toLine c.places, line := some { bytes := r.frame, elapsed := 0 } }) ∧
  (∀ o rest r, c.line = none → firstReady c.places = none → c.delivery.offers = o :: rest → s.record? o.seq = some r →
    d = { c with
      delivery := { c.delivery with offers := rest }, line := some { bytes := s.reportFrame c.delivery o r, elapsed := 0 } }) ∧
  (c.line = none → firstReady c.places = none → c.delivery.offers = [] → d = c)

/-- The other link. -/
def otherLink : Link → Link
  | .a => .b
  | .b => .a

/-- A reply is queued at the request's place, and the other link sees nothing but what `Undisturbed` allows. -/
def Replies (s t : State) (l : Link) (k : ReqKind) (tag : Byte) (r : Result) (fields : List Byte) : Prop :=
  Shows (s.chain l) (t.chain l) ((s.chain l).answered { kind := k.code, tag := tag, result := r, fields := fields }) ∧
    Undisturbed (s.chain (otherLink l)) (t.chain (otherLink l))

/-- A reply is queued at the request's place and nothing else happens to either chain: the delivery of the requesting link
stands as it stood, and so does the whole other chain (09 R157, 10 R174). -/
def Answers (s t : State) (l : Link) (k : ReqKind) (tag : Byte) (r : Result) (fields : List Byte) : Prop :=
  Shows (s.chain l) (t.chain l) ((s.chain l).answered { kind := k.code, tag := tag, result := r, fields := fields }) ∧
    (t.chain l).delivery = (s.chain l).delivery ∧ t.chain (otherLink l) = s.chain (otherLink l)

/-- A delivery after an event from `s` to `t` that appends `n` records: it has taken the drops of the records for which the
journal had no room (09 R163), and then made its offers (09 R155). -/
def State.reported (s t : State) (n : Nat) (d : Delivery) : Delivery :=
  ((s.journal.take (s.journal.length + n - Config.journalCapacity)).foldl (fun d r => d.drop r.seq) d).offerUpTo t.isHeld
    Config.deliveryWindow

/-- A request is acted on: its records are appended, its reply is OK, and its link's delivery takes the drops and makes the offers
that the records call for, and nothing else (08 R143, 09 R155, R163, 10 R174). -/
def Acts (s t : State) (l : Link) (k : ReqKind) (tag : Byte) (fields : List Byte) (items : List Item) : Prop :=
  Grows s t items ∧ Replies s t l k tag .ok fields ∧
    (t.chain l).delivery = s.reported t items.length (s.chain l).delivery

/-- A request that its command turns away: only the lease of the holder and the requesting link's reply queue and line change
(10 R174, 11 R182). -/
def TurnsAway (s : State) (c : Instr) (l : Link) (k : ReqKind) (tag : Byte) (r : Result) (fields : List Byte) : Prop :=
  ∃ t, exec c s = .next t ∧
    t = { s with session := if k = .hello then s.session else s.sessionAfter l, chainA := t.chainA, chainB := t.chainB } ∧
    Answers s t l k tag r fields

/-! ### Walks -/

/-- The reply of a completed action: OK or NOTHING by its counts, and the counts (05 R96, R98; 12 Tables 12-1, 12-5). -/
def Action.lastReply (a : Action) (tag : Byte) : Reply :=
  { kind := match a.kind with | .ack => 0x20 | .reset => 0x21,
    tag := tag,
    result := if a.pointsChanged = 0 ∧ a.marksCleared = 0 then .nothing else .ok,
    fields := match a.kind with | .ack => [byte a.pointsChanged] | .reset => [byte a.pointsChanged, byte a.marksCleared] }

/-- A walk event of the action `a` goes on to the next position or, with none, completes: the slot is emptied, and a link's request
in progress receives its reply (05 R88, R95 to R98). -/
def Walks (s t : State) (src : Source) (a : Action) : Option WalkPos → Prop
  | some pos =>
    t.operator = s.operator.setSlot src (some { a with pos := pos }) ∧ ∀ l, Undisturbed (s.chain l) (t.chain l)
  | none =>
    t.operator = s.operator.setSlot src none ∧
      (src = .panel → ∀ l, Undisturbed (s.chain l) (t.chain l)) ∧
      ∀ l tag, src = linkSource l → a.tag = some tag →
        (firstReady (replaceFirst (Place.completeWith (a.lastReply tag)) (s.chain l).places)).isSome = true →
        Shows (s.chain l) (t.chain l) (replaceFirst (Place.completeWith (a.lastReply tag)) (s.chain l).places) ∧
          Undisturbed (s.chain (otherLink l)) (t.chain (otherLink l))

/-- Where an ACK walk goes after point `p`: nowhere for scope point, and nowhere after point 47 (05 R95). -/
def afterPoint (scope : Scope) (p : Point) : Option WalkPos :=
  match scope with
  | .point _ => none
  | .group _ => if h : p.val + 1 < 48 then some (.ackAt ⟨p.val + 1, h⟩) else none
  | .all => if h : p.val + 1 < 48 then some (.ackAt ⟨p.val + 1, h⟩) else none

/-- Where a RESET walk goes after point `p` in the member stage of group `g` (05 R97). -/
def afterMember (g : Group) (p : Point) : WalkPos := if h : p.val + 1 < 48 then .member g ⟨p.val + 1, h⟩ else .clearing g

/-- Where a RESET walk goes after group `g`: for scope all to the next group, and nowhere after group 7 (05 R97). -/
def afterGroup (scope : Scope) (g : Group) : Option WalkPos :=
  match scope with
  | .all => if h : g.val + 1 < 8 then some (.examine ⟨g.val + 1, h⟩) else none
  | .group _ => none
  | .point _ => none

/-- Whether a group is defined and its operator sources, as they stand, hold a source (05 R93). -/
def Permitted (s : State) (g : Group) (src : Source) : Prop :=
  ∃ d, (s.group g).definition = some d ∧ ((src = .panel ∧ d.permitsPanel = true) ∨ (src = .linkA ∧ d.permitsA = true) ∨
    (src = .linkB ∧ d.permitsB = true))

/-! ### Frames -/

/-- Every point but one is as it was. -/
def OnlyPoint (s t : State) (p : Point) : Prop := ∀ q, q ≠ p → t.point q = s.point q

/-- Every group but one is as it was. -/
def OnlyGroup (s t : State) (g : Group) : Prop := ∀ k, k ≠ g → t.group k = s.group k

/-- The latches follow from what they were, what the event sets, and the conditions it leaves (06 R117, R118, R119). -/
def Latched (s t : State) (setsHorn setsTone : Bool) : Prop :=
  t.output =
    { s.output with
      horn := (s.output.horn || setsHorn) && t.hornCondition, tone := (s.output.tone || setsTone) && t.toneCondition }

/-! ### What qualification signals -/

/-- The command by which qualification, or a restart, raises point `p` now (02 R27, R29, R31, R32, R42). -/
def RaisesBy (s : State) (p : Point) (d : PointDef) (c : Instr) : Prop :=
  (c = .onDelayExpiry p ∧ (s.point p).qualified = .normalQ ∧
    ∃ e, (s.point p).delay = .onDelay e ∧ d.onDelay * 10 ≤ e) ∨
  (c = .accumulationExpiry p ∧ (s.point p).qualified = .normalQ ∧ (s.point p).delay = .accumulating ∧
    d.onDelay * 10 ≤ (s.point p).accumulated) ∨
  (c = .restartRaise p ∧ (s.point p).restartRaise = true) ∨
  (c = .filteredTransition p ∧ (s.point p).qualified = .normalQ ∧ (s.point p).delay = .idle ∧ d.onDelay = 0 ∧
    d.sense.correct (s.point p).line = .abnormal ∧ ∃ e, (s.point p).filterRun = some e ∧ d.filterMs ≤ e)

/-- The command by which qualification clears point `p` now (02 R28, R29, R33). -/
def ClearsBy (s : State) (p : Point) (d : PointDef) (c : Instr) : Prop :=
  (c = .offDelayExpiry p ∧ (s.point p).qualified = .abnormalQ ∧
    ∃ e, (s.point p).delay = .offDelay e ∧ d.offDelay * 10 ≤ e) ∨
  (c = .filteredTransition p ∧ (s.point p).qualified = .abnormalQ ∧ (s.point p).delay = .idle ∧ d.offDelay = 0 ∧
    d.sense.correct (s.point p).line = .normal ∧ ∃ e, (s.point p).filterRun = some e ∧ d.filterMs ≤ e)

/-- A point as the input unit and qualification leave it when they raise it (02 R23, R27, R29, R32). -/
def PointState.raised (x : PointState) (p : Point) (c : Instr) : PointState :=
  { x with
    filtered := if c = .filteredTransition p then .abnormal else x.filtered,
    filterRun := if c = .filteredTransition p then none else x.filterRun,
    qualified := .abnormalQ, delay := .idle, accumulated := 0, restartRaise := false }

/-- A point as the input unit and qualification leave it when they clear it (02 R23, R28, R29). -/
def PointState.lowered (x : PointState) (p : Point) (c : Instr) : PointState :=
  { x with
    filtered := if c = .filteredTransition p then .normal else x.filtered,
    filterRun := if c = .filteredTransition p then none else x.filterRun,
    qualified := .normalQ, delay := .idle }

/-- A point with its phase and the output unit's copy moved, its re-alert timer set (03 R46, R58; 06 R111). -/
def PointState.moved (x : PointState) (ph : Phase) (realert : Option Nat) (mark : Bool) : PointState :=
  { x with phase := ph, realert := realert, shownPhase := ph, shownMark := mark }

/-! ### The alarm list -/

/-- The list with one entry changed in its place (04 R74). -/
def mirrored (list : List Entry) (p : Point) (f : Entry → Entry) : List Entry :=
  list.map fun e => if e.point = p then f e else e

/-- The list without the entry of a point (04 R76). -/
def closed (list : List Entry) (p : Point) : List Entry := list.filter fun e => decide (e.point ≠ p)

/-- The record that follows the close of a marked entry (04 R80). -/
def goneItems (e : Entry) (src : Source) : List Item :=
  if e.firstOut then [(.firstOutCleared .gone, src, some e.point, some e.group)] else []

/-! ### Invariants -/

/-- The numbers of a list of records are consecutive along the cycle, and end just before `last` (08 R142, R143). -/
def consecutive (last : Seq) : List Record → Prop
  | [] => True
  | r :: rest => r.seq ≠ 0 ∧ (match rest with | [] => seqNext r.seq = last | x :: _ => seqNext r.seq = x.seq) ∧ consecutive last rest

/-- The journal holds from 1 to 1024 records with consecutive numbers, never 0, up to the one before next (08 R142, R143). -/
def State.journalSound (s : State) : Prop :=
  s.journal ≠ [] ∧ s.journal.length ≤ Config.journalCapacity ∧ s.nextSeq ≠ 0 ∧ consecutive s.nextSeq s.journal

/-- The alarm list holds no two entries of one point, and a point has an entry exactly in the five phases with an entry, with
the entry's phase its own (04 R70). -/
def State.listSound (s : State) : Prop :=
  (s.alarmList.map (·.point)).Nodup ∧ (∀ p, (s.point p).phase.hasEntry = true ↔ ∃ e ∈ s.alarmList, e.point = p) ∧
    ∀ e ∈ s.alarmList, e.phase = (s.point e.point).phase

/-- In a sequencing phase a point is ABNORMAL_Q exactly in ALERT and ACKED (03 R44); a SUPPRESSED point has a chatter limit and
runs its restore timer only while NORMAL_Q (07 R124, R128). -/
def PointState.agrees (x : PointState) : Prop :=
  (x.phase.sequencing = true → x.definition.isSome = true ∧
    (x.qualified = .abnormalQ ↔ (x.phase = .alert ∨ x.phase = .acked))) ∧
  (x.phase = .suppressed → (∃ d, x.definition = some d ∧ d.chatterLimit ≠ 0) ∧
    (x.restore.isSome = true → x.qualified = .normalQ))

/-- Every point agrees (03 R44). -/
def State.pointsAgree (s : State) : Prop := ∀ p, (s.point p).agrees

/-- The output unit's copy of every point's phase is the point's phase (06 R110, R111). -/
def State.copiesFollow (s : State) : Prop := ∀ p, (s.point p).shownPhase = (s.point p).phase

/-- The lease runs exactly while there is a holder, for at most 30,000 ms, and the holder has an open session (11 R181). -/
def State.authoritySound (s : State) : Prop :=
  (s.session.lease.isSome = true ↔ s.session.holder.isSome = true) ∧
    (∀ n, s.session.lease = some n → n ≤ Config.leaseMs) ∧ ∀ l, s.session.holder = some l → s.session.isOpen l = true

/-- An OFF or SILENT delivery holds nothing in flight: next is the number after confirmed, no offers, no timer, retry count 0
(09 R152). -/
def Delivery.restsQuietly (d : Delivery) : Prop :=
  d.state ≠ .live → d.next = d.confirmed.map seqNext ∧ d.offers = [] ∧ d.timer = none ∧ d.retry = 0

/-- Each delivery rests quietly, and is LIVE or SILENT only under an open session (09 R152). -/
def State.deliveriesSound (s : State) : Prop :=
  ∀ l, (s.chain l).delivery.restsQuietly ∧ ((s.chain l).delivery.state ≠ .off → s.session.isOpen l = true)

/-- What a LIVE delivery holds (09 R152): cursors with at most four records in flight, every one of them held in the journal, the
window full or next at the journal's next number (09 R155); in the offer list only records in flight, ascending and without
duplicates, repeats ahead of first sendings, the first sendings the last of those in flight; the timer running, for at most
500 ms, exactly while a record is in flight; a retry count of at most 4. -/
def Delivery.windowSound (d : Delivery) (s : State) : Prop :=
  d.state = .live → ∃ c n, d.confirmed = some c ∧ d.next = some n ∧ c ≠ 0 ∧ n ≠ 0 ∧ 1 ≤ forward c n ∧ forward c n ≤ 5 ∧
    (∀ m ∈ seqsFrom (forward c n - 1) (seqNext c), s.isHeld m = true) ∧ (forward c n = 5 ∨ n = s.nextSeq) ∧
    (∃ again first : List Seq,
      d.offers = again.map (fun m => { seq := m, isRepeat := true }) ++ first.map (fun m => { seq := m, isRepeat := false }) ∧
        (again ++ first).Sublist (seqsFrom (forward c n - 1) (seqNext c)) ∧
        first <:+ seqsFrom (forward c n - 1) (seqNext c)) ∧
    (d.timer.isSome = true ↔ 1 < forward c n) ∧ (∀ k, d.timer = some k → k ≤ 500) ∧ d.retry ≤ 4

/-- Both deliveries hold what a LIVE delivery holds (09 R152). -/
def State.windowsSound (s : State) : Prop := ∀ l, (s.chain l).delivery.windowSound s

/-- The first-out points, the marked entries and the output unit's copies of the marks agree (04 R77, R82; 06 R110): a group's
first-out point is a member of it, with a marked entry, and the group has first-out enabled; an entry names its point's group, and
a marked entry is that of the group's first-out point; the copy of a point shows the mark exactly while its entry is marked. -/
def State.marksSound (s : State) : Prop :=
  (∀ g p, (s.group g).firstOut = some p →
    s.groupOf p = some g ∧ (∃ d, (s.group g).definition = some d ∧ d.firstOutEnabled = true) ∧
      ∃ e ∈ s.alarmList, e.point = p ∧ e.firstOut = true) ∧
  (∀ e ∈ s.alarmList, s.groupOf e.point = some e.group ∧ (e.firstOut = true → (s.group e.group).firstOut = some e.point)) ∧
  ∀ p, (s.point p).shownMark = true ↔ ∃ e ∈ s.alarmList, e.point = p ∧ e.firstOut = true

/-- The counters stand in their ranges (06 R108, 08 R136), and a running host lamp-test timer has from 1 to 60,000 ms remaining
(06 R112). -/
def State.countersSound (s : State) : Prop :=
  s.output.cycle ≤ Config.lastCycle ∧ s.time.ms ≤ Config.lastMsOfDay ∧
    ∀ n, s.output.hostTimer = some n → 1 ≤ n ∧ n ≤ 60000

end Sys2Proof.Machine
end

