-- ==== Sys2Proof/Certificates/Slice0/Obligations.lean ====
section
/-! DEFINITION. The statements for the provers. -/

open Sys2Proof Sys2Proof.Machine

/-! ### The queue and the whole machine -/

/-- One step runs the command at the front of the queue on the state with the queue's rest. -/
def Obligations.StepRunsFrontCommand : Prop :=
  ∀ (c : Instr) (rest : List Instr) (s : State), s.pending = c :: rest → step s = exec c { s with pending := rest }

/-- Every command answers a next state, and touches neither the queue nor the model's choice counter. The model's choice: a command
whose event cannot arise has no effect (log 1), the queue and the counter are the model's own (log 3, 22), and there is no machine
fault (log 29). -/
def Obligations.CommandsKeepTheQueue : Prop :=
  ∀ (c : Instr) (s : State), ∃ t, exec c s = .next t ∧ t.pending = s.pending ∧ t.choices = s.choices

/-- The invariants hold at the end of a cold reset from power-on. -/
def Obligations.ResetMeetsTheInvariants : Prop :=
  State.reset.journalSound ∧ State.reset.listSound ∧ State.reset.pointsAgree ∧ State.reset.copiesFollow ∧
    State.reset.authoritySound ∧ State.reset.deliveriesSound ∧ State.reset.countersSound ∧ State.reset.marksSound ∧
    State.reset.windowsSound

/-- Every step keeps the journal: 1 to 1024 records, numbered consecutively along the cycle, never 0, up to the one before
next (R142, R143). -/
def Obligations.JournalStaysConsecutive : Prop :=
  ∀ s t : State, s.journalSound → step s = .next t → t.journalSound

/-- Every step keeps the alarm list in agreement with the phases: no two entries of one point, an entry exactly in the five
phases with an entry, the entry's phase the point's (R70). -/
def Obligations.AlarmListMirrorsPhases : Prop :=
  ∀ s t : State, s.listSound → step s = .next t → t.listSound

/-- Every step keeps phase and qualified condition in agreement (R44). -/
def Obligations.PhaseAgreesWithCondition : Prop :=
  ∀ s t : State, s.pointsAgree → step s = .next t → t.pointsAgree

/-- Every step keeps the output unit's copies equal to the phases, and, with the alarm list in agreement with the phases, keeps the
groups' first-out points, the marked entries and the copies of the marks in agreement (R76, R77, R110, R111). -/
def Obligations.LampCopiesFollowPhases : Prop :=
  ∀ s t : State, step s = .next t →
    (s.copiesFollow → t.copiesFollow) ∧ (s.listSound → s.marksSound → t.marksSound)

/-- Every step keeps the authority: a lease exactly while there is a holder, of at most 30,000 ms, and the holder's session open
(R181); and the counters of the pattern generator and the time base, and the host lamp-test timer, stay in their ranges (R108, R112,
R136). -/
def Obligations.AuthorityStaysLeased : Prop :=
  ∀ s t : State, step s = .next t →
    (s.authoritySound → t.authoritySound) ∧ (s.countersSound → t.countersSound)

/-- Every step keeps both deliveries: OFF and SILENT hold nothing in flight, and LIVE or SILENT only under an open session
(R152). -/
def Obligations.IdleDeliveriesHoldNothing : Prop :=
  ∀ s t : State, s.deliveriesSound → step s = .next t → t.deliveriesSound

/-- The configuration generation moves only by one at an accepted configuration change and only to 0 at cold reset (R6). -/
def Obligations.GenerationCountsChanges : Prop :=
  ∀ (c : Instr) (s t : State), exec c s = .next t →
    t.generation = s.generation ∨
    ((∃ l, c = .defineGroup l ∨ c = .undefineGroup l ∨ c = .definePoint l ∨ c = .undefinePoint l ∨ c = .setServiceOut l ∨
        c = .setServiceIn l) ∧
      t.generation = if s.generation = 0xFFFFFFFF then 1 else s.generation + 1) ∨
    ((∃ cause rate1 rate0, c = .coldReset cause rate1 rate0) ∧ t.generation = 0)

/-- Definitions change only by the four definition requests and cold reset; the time is set only by SET TIME, DAY_ROLLOVER and
cold reset; the line rate and the cause of the last cold reset change only by cold reset (R1, R3, R21, R137, R167, R187). -/
def Obligations.HeldStateChangesOnlyByItsCommands : Prop :=
  ∀ (c : Instr) (s t : State), exec c s = .next t → (∀ cause rate1 rate0, c ≠ .coldReset cause rate1 rate0) →
    t.rate = s.rate ∧ t.session.lastColdReset = s.session.lastColdReset ∧
    ((∀ l, c ≠ .definePoint l ∧ c ≠ .undefinePoint l) → ∀ p, (t.point p).definition = (s.point p).definition) ∧
    ((∀ l, c ≠ .defineGroup l ∧ c ≠ .undefineGroup l) → ∀ g, (t.group g).definition = (s.group g).definition) ∧
    ((∀ l, c ≠ .setTime l) → c ≠ .dayRollover → t.time = s.time)

/-! ### Field inputs and qualification -/

/-- INPUT_LINE_CHANGE: a change away from the filtered level begins a run at 0, a change back abandons it; the line of an
undefined point is not followed; a level already held changes nothing (R22, R23). -/
def Obligations.LineChangeRunsTheFilter : Prop :=
  ∀ (p : Point) (active : Bool) (s : State), s.inReset = false →
    ∃ t, exec (.inputLineChange p active) s = .next t ∧ OnlyPoint s t p ∧ t = { s with points := t.points } ∧
      ((s.point p).line = active → t = s) ∧
      ((s.point p).definition = none → t.point p = { s.point p with line := active }) ∧
      ∀ d, (s.point p).definition = some d → (s.point p).line ≠ active →
        let level : Level := if active = decide (d.sense = .normallyOpen) then .abnormal else .normal
        (level = (s.point p).filtered → t.point p = { s.point p with line := active, filterRun := none }) ∧
        (level ≠ (s.point p).filtered → (s.point p).filterRun = none →
          t.point p = { s.point p with line := active, filterRun := some 0 })

/-- FILTERED_TRANSITION that neither raises nor clears at once: the filtered level takes the line's level and the run ends. Out of
service it goes no further (R24); else qualification starts, cancels, pauses or resumes its delay, with every delay at its value
(R27, R28, R31, R33). A pause keeps the accumulated time reached, and one millisecond less than the on-delay when it had reached
that (R34; one millisecond is the model's reading, log 13). -/
def Obligations.FilteredTransitionMovesTheDelay : Prop :=
  ∀ (p : Point) (s : State) (d : PointDef) (e : Nat), s.inReset = false → (s.point p).definition = some d →
    (s.point p).filterRun = some e → d.filterMs ≤ e →
    ((s.point p).phase = .outOfService ∨
      (¬ RaisesBy s p d (.filteredTransition p) ∧ ¬ ClearsBy s p d (.filteredTransition p))) →
    let x := s.point p
    let level := d.sense.correct x.line
    let y : PointState := { x with filtered := level, filterRun := none }
    let kept := min x.accumulated (d.onDelay * 10 - 1)
    ∃ t, exec (.filteredTransition p) s = .next t ∧ OnlyPoint s t p ∧
      t = { s with points := t.points, chainA := t.chainA, chainB := t.chainB } ∧
      (∀ l, Undisturbed (s.chain l) (t.chain l)) ∧
      (x.phase = .outOfService → t.point p = y) ∧
      (x.phase ≠ .outOfService → level = .abnormal →
        (x.qualified = .normalQ → x.delay = .idle → d.mode = .continuous → t.point p = { y with delay := .onDelay 0 }) ∧
        (x.qualified = .normalQ → x.delay = .idle → d.mode = .accumulating → t.point p = { y with delay := .accumulating }) ∧
        (∀ f, x.qualified = .normalQ → x.delay = .forget f → t.point p = { y with delay := .accumulating }) ∧
        (∀ f, x.qualified = .abnormalQ → x.delay = .offDelay f → t.point p = { y with delay := .idle })) ∧
      (x.phase ≠ .outOfService → level = .normal →
        (∀ f, x.qualified = .normalQ → x.delay = .onDelay f → t.point p = { y with delay := .idle }) ∧
        (x.qualified = .normalQ → x.delay = .accumulating → d.offDelay ≠ 0 → kept ≠ 0 →
          t.point p = { y with delay := .forget 0, accumulated := kept }) ∧
        (x.qualified = .normalQ → x.delay = .accumulating → (d.offDelay = 0 ∨ kept = 0) →
          t.point p = { y with delay := .idle, accumulated := 0 }) ∧
        (x.qualified = .abnormalQ → x.delay = .idle → t.point p = { y with delay := .offDelay 0 }))

/-- FORGET_TIMER_EXPIRY discards the accumulated time (R34), and CHATTER_WINDOW_EXPIRY the raise count (R126): nothing is
emitted, no record is appended, nothing else changes. -/
def Obligations.QuietExpiriesForget : Prop :=
  ∀ (p : Point) (s : State), s.inReset = false →
    (∀ d e, (s.point p).definition = some d → (s.point p).delay = .forget e → d.offDelay * 10 ≤ e →
      ∃ t, exec (.forgetTimerExpiry p) s = .next t ∧ OnlyPoint s t p ∧ t = { s with points := t.points } ∧
        t.point p = { s.point p with delay := .idle, accumulated := 0 }) ∧
    ((s.point p).window = some 0 →
      ∃ t, exec (.chatterWindowExpiry p) s = .next t ∧ OnlyPoint s t p ∧ t = { s with points := t.points } ∧
        t.point p = { s.point p with raiseCount := 0, window := none })

/-! ### Sequences -/

/-- A RAISE taken in NORMAL, whether an on-delay or an accumulation expires, a zero on-delay raises at once or a restart left it
due, begins an episode: ALERT, the first-out mark if its group's is free, RAISED with count 1, a new entry at the tail, the HORN
latch if the group is audible (R29, R32, R42, R49, R73, R78, R117; the count of R125). -/
def Obligations.RaiseOpensAnEpisode : Prop :=
  ∀ (c : Instr) (p : Point) (s : State) (d : PointDef) (g : GroupDef), s.inReset = false →
    s.journal.length ≤ Config.journalCapacity → (s.point p).definition = some d → (s.group d.group).definition = some g →
    RaisesBy s p d c → (s.point p).phase = .normal →
    (d.chatterLimit = 0 ∨ (s.point p).countedRaise < d.chatterLimit) →
    let x := s.point p
    let mark := g.firstOutEnabled && (s.group d.group).firstOut.isNone
    ∃ t, exec c s = .next t ∧ OnlyPoint s t p ∧ OnlyGroup s t d.group ∧ (∀ l, Undisturbed (s.chain l) (t.chain l)) ∧
      t = { s with points := t.points, groups := t.groups, alarmList := t.alarmList, journal := t.journal,
                   nextSeq := t.nextSeq, output := t.output, chainA := t.chainA, chainB := t.chainB } ∧
      t.point p =
        { (x.raised p c).moved .alert none mark with
          raiseCount := if d.chatterLimit = 0 then x.raiseCount else if x.window = none then 1 else x.raiseCount + 1,
          window := if d.chatterLimit = 0 then x.window else some (x.window.getD (d.chatterWindow * 1000)) } ∧
      t.group d.group = { s.group d.group with firstOut := if mark then some p else (s.group d.group).firstOut } ∧
      t.alarmList = s.alarmList ++
        [{ point := p, group := d.group, phase := .alert, firstOut := mark, raiseCount := 1, openSeq := s.nextSeq,
           openTime := s.time, ackedBy := none, ackedAt := none }] ∧
      Grows s t [(.raised .alert 1 mark, .part, some p, some d.group)] ∧ Latched s t g.audible false

/-- A RAISE taken in CLEARED_UNACKED, WAIT_RESET or RINGBACK is a re-raise within the episode: the entry keeps its place and its
fields, its raise count rises by one and saturates at 255 (R50, R74). -/
def Obligations.ReRaiseKeepsTheEntry : Prop :=
  ∀ (c : Instr) (p : Point) (s : State) (d : PointDef) (g : GroupDef) (e : Entry), s.inReset = false →
    s.journal.length ≤ Config.journalCapacity → (s.point p).definition = some d → (s.group d.group).definition = some g →
    RaisesBy s p d c → (s.point p).phase ∈ [.clearedUnacked, .waitReset, .ringback] → s.entry? p = some e →
    (d.chatterLimit = 0 ∨ (s.point p).countedRaise < d.chatterLimit) →
    let x := s.point p
    let count := min (e.raiseCount + 1) 255
    ∃ t, exec c s = .next t ∧ OnlyPoint s t p ∧ (∀ l, Undisturbed (s.chain l) (t.chain l)) ∧
      t = { s with points := t.points, alarmList := t.alarmList, journal := t.journal, nextSeq := t.nextSeq,
                   output := t.output, chainA := t.chainA, chainB := t.chainB } ∧
      t.point p =
        { (x.raised p c).moved .alert none x.shownMark with
          raiseCount := if d.chatterLimit = 0 then x.raiseCount else if x.window = none then 1 else x.raiseCount + 1,
          window := if d.chatterLimit = 0 then x.window else some (x.window.getD (d.chatterWindow * 1000)) } ∧
      t.alarmList = mirrored s.alarmList p (fun e => { e with phase := .alert, raiseCount := min (e.raiseCount + 1) 255 }) ∧
      Grows s t [(.raised .alert count e.firstOut, .part, some p, some d.group)] ∧ Latched s t g.audible false

/-- A counted RAISE that brings the raise count to the chatter limit suppresses the point: SUPPRESSED, no RAISED record, the entry
leaves with its mark, the chatter count and timers at rest (R125, R127, R80). -/
def Obligations.ChatterLimitSuppresses : Prop :=
  ∀ (c : Instr) (p : Point) (s : State) (d : PointDef) (n : Nat), s.inReset = false →
    s.journal.length ≤ Config.journalCapacity → (s.point p).definition = some d → RaisesBy s p d c →
    (s.point p).phase ∈ [.normal, .clearedUnacked, .waitReset, .ringback] → 2 ≤ d.chatterLimit →
    (s.point p).window = some n → (s.point p).raiseCount + 1 = d.chatterLimit →
    ∃ t, exec c s = .next t ∧ OnlyPoint s t p ∧ (∀ l, Undisturbed (s.chain l) (t.chain l)) ∧
      t = { s with points := t.points, groups := t.groups, alarmList := t.alarmList, journal := t.journal,
                   nextSeq := t.nextSeq, output := t.output, chainA := t.chainA, chainB := t.chainB } ∧
      t.point p =
        { ((s.point p).raised p c).moved .suppressed none false with raiseCount := 0, window := none, restore := none } ∧
      t.alarmList = closed s.alarmList p ∧ Latched s t false false ∧
      (s.entry? p = none → t.groups = s.groups ∧ Grows s t [(.suppressed .suppressed, .part, some p, some d.group)]) ∧
      ∀ e, s.entry? p = some e →
        OnlyGroup s t e.group ∧
        t.group e.group = { s.group e.group with firstOut := if e.firstOut then none else (s.group e.group).firstOut } ∧
        Grows s t ((.suppressed .suppressed, .part, some p, some d.group) :: goneItems e .part)

/-- While a point is SUPPRESSED a CLEAR starts its restore timer with the whole chatter window and a RAISE cancels it; nothing is
passed on and no record is appended (R128). -/
def Obligations.SuppressedSignalsMoveTheRestoreTimer : Prop :=
  ∀ (c : Instr) (p : Point) (s : State) (d : PointDef), s.inReset = false → (s.point p).definition = some d →
    (s.point p).phase = .suppressed → d.chatterLimit ≠ 0 → RaisesBy s p d c ∨ ClearsBy s p d c →
    ∃ t, exec c s = .next t ∧ OnlyPoint s t p ∧ (∀ l, Undisturbed (s.chain l) (t.chain l)) ∧
      t = { s with points := t.points, chainA := t.chainA, chainB := t.chainB } ∧
      (RaisesBy s p d c → t.point p = { (s.point p).raised p c with restore := none }) ∧
      (ClearsBy s p d c → t.point p = { (s.point p).lowered p c with restore := some (d.chatterWindow * 1000) })

/-- A CLEAR of a point in ALERT makes it CLEARED_UNACKED, whatever the sequence type (R29, R51). -/
def Obligations.ClearOfAlertAwaitsAcknowledgement : Prop :=
  ∀ (c : Instr) (p : Point) (s : State) (d : PointDef), s.inReset = false →
    s.journal.length ≤ Config.journalCapacity → (s.point p).definition = some d → ClearsBy s p d c →
    (s.point p).phase = .alert →
    ∃ t, exec c s = .next t ∧ OnlyPoint s t p ∧ (∀ l, Undisturbed (s.chain l) (t.chain l)) ∧
      t = { s with points := t.points, alarmList := t.alarmList, journal := t.journal, nextSeq := t.nextSeq,
                   output := t.output, chainA := t.chainA, chainB := t.chainB } ∧
      t.point p = ((s.point p).lowered p c).moved .clearedUnacked none (s.point p).shownMark ∧
      t.alarmList = mirrored s.alarmList p (fun e => { e with phase := .clearedUnacked }) ∧
      Grows s t [(.cleared .clearedUnacked, .part, some p, some d.group)] ∧ Latched s t false false

/-- A CLEAR of a point in ACKED follows its group's sequence type: NORMAL with the entry closed and a mark cleared, WAIT_RESET, or
RINGBACK with the TONE latch if the group is audible; the re-alert timer is cancelled (R52, R58, R80, R118). -/
def Obligations.ClearOfAckedFollowsTheSequence : Prop :=
  ∀ (c : Instr) (p : Point) (s : State) (d : PointDef) (g : GroupDef) (e : Entry), s.inReset = false →
    s.journal.length ≤ Config.journalCapacity → (s.point p).definition = some d → (s.group d.group).definition = some g →
    ClearsBy s p d c → (s.point p).phase = .acked → s.entry? p = some e →
    let y := (s.point p).lowered p c
    ∃ t, exec c s = .next t ∧ OnlyPoint s t p ∧ (∀ l, Undisturbed (s.chain l) (t.chain l)) ∧
      t = { s with points := t.points, groups := t.groups, alarmList := t.alarmList, journal := t.journal,
                   nextSeq := t.nextSeq, output := t.output, chainA := t.chainA, chainB := t.chainB } ∧
      (g.sequence = .auto →
        t.point p = y.moved .normal none false ∧ t.alarmList = closed s.alarmList p ∧ OnlyGroup s t e.group ∧
        t.group e.group = { s.group e.group with firstOut := if e.firstOut then none else (s.group e.group).firstOut } ∧
        Grows s t ((.cleared .normal, .part, some p, some d.group) :: goneItems e .part) ∧ Latched s t false false) ∧
      (g.sequence = .manual →
        t.point p = y.moved .waitReset none y.shownMark ∧ t.groups = s.groups ∧
        t.alarmList = mirrored s.alarmList p (fun e => { e with phase := .waitReset }) ∧
        Grows s t [(.cleared .waitReset, .part, some p, some d.group)] ∧ Latched s t false false) ∧
      (g.sequence = .ringback →
        t.point p = y.moved .ringback none y.shownMark ∧ t.groups = s.groups ∧
        t.alarmList = mirrored s.alarmList p (fun e => { e with phase := .ringback }) ∧
        Grows s t [(.cleared .ringback, .part, some p, some d.group)] ∧ Latched s t false g.audible)

/-- REALERT_EXPIRY returns an ACKED point to ALERT: REALERT, the entry mirrored and otherwise unchanged, the HORN latch if the
group is audible, the timer idle (R59). -/
def Obligations.RealertReturnsToAlert : Prop :=
  ∀ (p : Point) (s : State), s.inReset = false → s.journal.length ≤ Config.journalCapacity →
    (s.point p).phase = .acked → (s.point p).realert = some 0 →
    ∃ t, exec (.realertExpiry p) s = .next t ∧ OnlyPoint s t p ∧ (∀ l, Undisturbed (s.chain l) (t.chain l)) ∧
      t = { s with points := t.points, alarmList := t.alarmList, journal := t.journal, nextSeq := t.nextSeq,
                   output := t.output, chainA := t.chainA, chainB := t.chainB } ∧
      t.point p = (s.point p).moved .alert none (s.point p).shownMark ∧
      t.alarmList = mirrored s.alarmList p (fun e => { e with phase := .alert }) ∧
      Grows s t [(.realert .alert, .part, some p, s.groupOf p)] ∧ Latched s t (s.audible p) false

/-- RESTORE_TIMER_EXPIRY returns a SUPPRESSED point to NORMAL with RESTORED, cause AUTO; its qualification carries on (R129). -/
def Obligations.RestoreTimerReturnsToNormal : Prop :=
  ∀ (p : Point) (s : State), s.inReset = false → s.journal.length ≤ Config.journalCapacity →
    (s.point p).phase = .suppressed → (s.point p).restore = some 0 →
    ∃ t, exec (.restoreTimerExpiry p) s = .next t ∧ OnlyPoint s t p ∧ (∀ l, Undisturbed (s.chain l) (t.chain l)) ∧
      t = { s with points := t.points, journal := t.journal, nextSeq := t.nextSeq, output := t.output,
                   chainA := t.chainA, chainB := t.chainB } ∧
      t.point p = { (s.point p).moved .normal none false with restore := none } ∧
      Grows s t [(.restored .normal .auto, .part, some p, s.groupOf p)] ∧ Latched s t false false

/-! ### The counters and one millisecond -/

/-- PATTERN_CYCLE_WRAP returns the cycle from 999 to 0 (R108). DAY_ROLLOVER makes the millisecond of day 0 and advances the day,
from 65535 to 0, with the time-set flag as it was (R136). Neither appends a record or touches anything else. -/
def Obligations.CountersWrap : Prop :=
  ∀ s : State, s.inReset = false →
    (s.output.cycle = 999 → exec .patternCycleWrap s = .next { s with output := { s.output with cycle := 0 } }) ∧
    (s.time.ms = 86399999 →
      ∃ day : BitVec 16, (if s.time.day = 65535 then day = 0 else day.toNat = s.time.day.toNat + 1) ∧
        exec .dayRollover s = .next { s with time := { day := day, ms := 0, isSet := s.time.isSet } })

/-- The model's choice (log 3, 4, 6, 26, 32): with no command waiting and no step of the part's own due, a step lets one whole
millisecond pass: the millisecond of day and the cycle position advance by one and the host lamp-test timer runs down by one, or
their wrap or expiry is put in the queue in its place, in this order, ahead of every step due then; remaining times run down and elapsed times run up, those of the panel
lines' filters among them; nothing else changes (R40, R90, R108, R112, R136). -/
def Obligations.AnIdleStepIsOneMillisecond : Prop :=
  ∀ s : State, s.pending = [] → s.inReset = false → s.due = [] →
    let counted (x : PanelInput) : PanelInput := { x with run := x.run.map (· + 1) }
    ∃ t, step s = .next t ∧
      t = { s with pending := t.pending, points := t.points, time := t.time, operator := t.operator, output := t.output,
                   session := t.session, chainA := t.chainA, chainB := t.chainB } ∧
      t.pending = (if s.time.ms = 86399999 then [.dayRollover] else []) ++
        (if s.output.cycle = 999 then [.patternCycleWrap] else []) ++
        (if s.output.hostTimer = some 0 ∨ s.output.hostTimer = some 1 then [.lampTestHostExpiry] else []) ∧
      t.time = { s.time with ms := if s.time.ms = 86399999 then s.time.ms else s.time.ms + 1 } ∧
      t.output = { s.output with
        cycle := if s.output.cycle = 999 then s.output.cycle else s.output.cycle + 1,
        hostTimer := s.output.hostTimer.map fun n => if n ≤ 1 then n else n - 1 } ∧
      t.operator = { s.operator with
        ack := counted s.operator.ack, silence := counted s.operator.silence, reset := counted s.operator.reset,
        test := counted s.operator.test } ∧
      t.session = { s.session with lease := s.session.lease.map fun n => n - 1 } ∧
      (∀ p, t.point p = { s.point p with
        filterRun := (s.point p).filterRun.map (· + 1),
        delay := match (s.point p).delay with
          | .onDelay e => .onDelay (e + 1)
          | .offDelay e => .offDelay (e + 1)
          | .forget e => .forget (e + 1)
          | .idle => .idle
          | .accumulating => .accumulating,
        accumulated := if (s.point p).delay = .accumulating then (s.point p).accumulated + 1 else (s.point p).accumulated,
        window := (s.point p).window.map (· - 1), restore := (s.point p).restore.map (· - 1),
        realert := (s.point p).realert.map (· - 1) }) ∧
      ∀ l, t.chain l = { s.chain l with
        rx := { (s.chain l).rx with timer := (s.chain l).rx.timer.map (· + 1) },
        line := (s.chain l).line.map fun f => { f with elapsed := f.elapsed + 1 },
        delivery := { (s.chain l).delivery with timer := (s.chain l).delivery.timer.map (· - 1) } }

/-! ### The panel -/

/-- PANEL_LINE_CHANGE: as for a field line, without sense correction: away from the filtered level a run begins at 0, back to it
the run is abandoned; a level already held changes nothing (R90). -/
def Obligations.PanelLineChangeRunsTheFilter : Prop :=
  ∀ (line : PanelLine) (active : Bool) (s : State), s.inReset = false →
    ∃ t, exec (.panelLineChange line active) s = .next t ∧ t = { s with operator := t.operator } ∧
      ((s.operator.panelLine line).line = active → t = s) ∧
      ((s.operator.panelLine line).line ≠ active →
        ((s.operator.panelLine line).filtered = active →
          t.operator = s.operator.setPanelLine line { s.operator.panelLine line with line := active, run := none }) ∧
        ((s.operator.panelLine line).filtered ≠ active → (s.operator.panelLine line).run = none →
          t.operator = s.operator.setPanelLine line { s.operator.panelLine line with line := active, run := some 0 }))

/-- PANEL_FILTERED_TRANSITION of the ACK or RESET line: a press begins its action of scope all at once when the panel slot is
empty and no press waits, else it joins the waiting list or merges with a waiting press of its line; a release has no effect
(R90, R91, R92). -/
def Obligations.PressBeginsOrWaits : Prop :=
  ∀ (isReset : Bool) (s : State) (e : Nat), s.inReset = false →
    let line : PanelLine := if isReset then .reset else .ack
    let press : Press := if isReset then .reset else .ack
    let action : Action :=
      { kind := if isReset then .reset else .ack, source := .panel, scope := .all,
        pos := if isReset then .examine 0 else .ackAt 0, pointsChanged := 0, marksCleared := 0, tag := none }
    let x := s.operator.panelLine line
    let settled := s.operator.setPanelLine line { line := x.line, filtered := x.line, run := none }
    x.run = some e → 20 ≤ e →
    ∃ t, exec (.panelFilteredTransition line) s = .next t ∧ (∀ l, Undisturbed (s.chain l) (t.chain l)) ∧
      t = { s with operator := t.operator, chainA := t.chainA, chainB := t.chainB } ∧
      (x.line = false → t.operator = settled) ∧
      (x.line = true → s.operator.slotPanel = none → s.operator.waiting = [] →
        t.operator = { settled with slotPanel := some action }) ∧
      (x.line = true → (s.operator.slotPanel ≠ none ∨ s.operator.waiting ≠ []) →
        t.operator = { settled with
          waiting := if press ∈ s.operator.waiting then s.operator.waiting else s.operator.waiting ++ [press] })

/-- PANEL_FILTERED_TRANSITION of the TEST line hands its level to the output unit; LAMP_TEST_ON or LAMP_TEST_OFF from PANEL is
appended exactly when the host timer is idle (R91, R112, R113). LAMP_TEST_HOST_EXPIRY, in the timer's last millisecond (log 6),
leaves the timer idle and appends LAMP_TEST_OFF from PART exactly when the panel level is inactive (R113, R115). -/
def Obligations.LampTestSourcesAppendTheirRecords : Prop :=
  ∀ (s : State), s.inReset = false → s.journal.length ≤ Config.journalCapacity →
    (∀ e, s.operator.test.run = some e → 20 ≤ e → s.output.testLevel ≠ s.operator.test.line →
      ∃ t, exec (.panelFilteredTransition .test) s = .next t ∧ (∀ l, Undisturbed (s.chain l) (t.chain l)) ∧
        t = { s with operator := t.operator, output := t.output, journal := t.journal, nextSeq := t.nextSeq,
                     chainA := t.chainA, chainB := t.chainB } ∧
        t.operator = { s.operator with
          test := { line := s.operator.test.line, filtered := s.operator.test.line, run := none } } ∧
        t.output = { s.output with testLevel := s.operator.test.line } ∧
        Grows s t (if s.output.hostTimer = none then
          [(if s.operator.test.line then .lampTestOn else .lampTestOff, .panel, none, none)] else [])) ∧
    (∀ n, s.output.hostTimer = some n → n ≤ 1 →
      ∃ t, exec .lampTestHostExpiry s = .next t ∧ (∀ l, Undisturbed (s.chain l) (t.chain l)) ∧
        t = { s with output := t.output, journal := t.journal, nextSeq := t.nextSeq, chainA := t.chainA,
                     chainB := t.chainB } ∧
        t.output = { s.output with hostTimer := none } ∧
        Grows s t (if s.output.testLevel then [] else [(.lampTestOff, .part, none, none)]))

/-- PANEL_PRESS_BEGIN: with the slot empty the press at the head leaves the waiting list and is begun: an ACK or RESET press
occupies the slot, a SILENCE press clears both latches and appends SILENCED if either was set (R92, R100). That the rest of the list
waits for another event after a SILENCE, one press for each event, is the model's choice (log 16). -/
def Obligations.WaitingPressBegins : Prop :=
  ∀ (s : State) (x : Press) (rest : List Press), s.inReset = false → s.journal.length ≤ Config.journalCapacity →
    s.operator.slotPanel = none → s.operator.waiting = x :: rest →
    ∃ t, exec .panelPressBegin s = .next t ∧ (∀ l, Undisturbed (s.chain l) (t.chain l)) ∧
      t = { s with operator := t.operator, output := t.output, journal := t.journal, nextSeq := t.nextSeq,
                   chainA := t.chainA, chainB := t.chainB } ∧
      (x = .silence →
        t.operator = { s.operator with waiting := rest } ∧ t.output = { s.output with horn := false, tone := false } ∧
        Grows s t (if s.output.horn || s.output.tone then
          [(.silenced s.output.horn s.output.tone, .panel, none, none)] else [])) ∧
      (x ≠ .silence →
        t.operator = { s.operator with
          waiting := rest,
          slotPanel := some
            { kind := if x = .ack then .ack else .reset, source := .panel, scope := .all,
              pos := if x = .ack then .ackAt 0 else .examine 0, pointsChanged := 0, marksCleared := 0, tag := none } } ∧
        t.output = s.output ∧ Grows s t [])

/-! ### Walks -/

/-- ACK_WALK_EVENT at a point of the scope, whatever the scope, whose group permits the source. In ALERT: ACKED from the action's
source, the acknowledgement fields set if absent, the re-alert timer started by the group's interval. In CLEARED_UNACKED: by
sequence type to NORMAL with the entry closed, WAIT_RESET, or RINGBACK with the TONE latch if the group is audible. Either adds
one point to the count, and the walk goes on to the next point or, after its last, completes. At a point whose group does not
permit the source, or in another phase, the walk goes on and nothing else changes; and so it does at an undefined point and at a
point outside the group of the scope (R53, R54, R55, R57, R75, R80, R95, R96, R118). -/
def Obligations.AckWalkAcknowledges : Prop :=
  (∀ (src : Source) (s : State) (a : Action) (p : Point) (d : PointDef) (g : GroupDef), s.inReset = false →
    s.journal.length ≤ Config.journalCapacity → s.operator.slot src = some a → a.pos = .ackAt p →
    (a.scope = .all ∨ a.scope = .group d.group ∨ a.scope = .point p) →
    (s.point p).definition = some d → (s.group d.group).definition = some g →
    let counted : Action := { a with pointsChanged := a.pointsChanged + 1 }
    let next := afterPoint a.scope p
    let signed (ph : Phase) (e : Entry) : Entry :=
      { e with phase := ph, ackedBy := if e.ackedBy = none then some src else e.ackedBy,
               ackedAt := if e.ackedBy = none then some s.time else e.ackedAt }
    ∃ t, exec (.ackWalkEvent src) s = .next t ∧ OnlyPoint s t p ∧
      t = { s with points := t.points, alarmList := t.alarmList, journal := t.journal, nextSeq := t.nextSeq,
                   operator := t.operator, output := t.output, groups := t.groups,
                   chainA := t.chainA, chainB := t.chainB } ∧
      (Permitted s d.group src → (s.point p).phase = .alert →
        t.groups = s.groups ∧ Walks s t src counted next ∧
        t.point p = (s.point p).moved .acked
          (if g.realertMinutes = 0 then none else some (g.realertMinutes * 60000)) (s.point p).shownMark ∧
        t.alarmList = mirrored s.alarmList p (signed .acked) ∧
        Grows s t [(.acked .acked, src, some p, some d.group)] ∧ Latched s t false false) ∧
      (∀ e, Permitted s d.group src → (s.point p).phase = .clearedUnacked → s.entry? p = some e →
        Walks s t src counted next ∧
        (g.sequence = .auto →
          t.point p = (s.point p).moved .normal none false ∧ t.alarmList = closed s.alarmList p ∧ OnlyGroup s t e.group ∧
          t.group e.group = { s.group e.group with firstOut := if e.firstOut then none else (s.group e.group).firstOut } ∧
          Grows s t ((.acked .normal, src, some p, some d.group) :: goneItems e src) ∧ Latched s t false false) ∧
        (g.sequence = .manual →
          t.point p = (s.point p).moved .waitReset none (s.point p).shownMark ∧ t.groups = s.groups ∧
          t.alarmList = mirrored s.alarmList p (signed .waitReset) ∧
          Grows s t [(.acked .waitReset, src, some p, some d.group)] ∧ Latched s t false false) ∧
        (g.sequence = .ringback →
          t.point p = (s.point p).moved .ringback none (s.point p).shownMark ∧ t.groups = s.groups ∧
          t.alarmList = mirrored s.alarmList p (signed .ringback) ∧
          Grows s t [(.acked .ringback, src, some p, some d.group)] ∧ Latched s t false g.audible)) ∧
      ((¬ Permitted s d.group src ∨ ((s.point p).phase ≠ .alert ∧ (s.point p).phase ≠ .clearedUnacked)) →
        t = { s with operator := t.operator, chainA := t.chainA, chainB := t.chainB } ∧ Walks s t src a next)) ∧
  ∀ (src : Source) (s : State) (a : Action) (p : Point), s.inReset = false → s.operator.slot src = some a → a.pos = .ackAt p →
    ((s.point p).definition = none ∨ ∃ g, a.scope = .group g ∧ s.groupOf p ≠ some g) →
    ∃ t, exec (.ackWalkEvent src) s = .next t ∧
      t = { s with operator := t.operator, chainA := t.chainA, chainB := t.chainB } ∧ Walks s t src a (afterPoint a.scope p)

/-- The last event of an ACK walk, at a point it does not change: point 47, or the one point of scope point, in a phase on which
ACK has no effect, undefined, or not of the group of the scope. The slot is emptied; for a link the reply is queued with the
request's tag, OK or NOTHING by the points changed, and their count; a panel action ends without a reply (R55, R88, R95, R96). -/
def Obligations.AckWalkEndsWithItsReply : Prop :=
  ∀ (src : Source) (s : State) (a : Action) (p : Point), s.inReset = false → s.operator.slot src = some a →
    a.pos = .ackAt p → ((∃ q, a.scope = .point q) ∨ p = 47) →
    (((s.point p).phase ≠ .alert ∧ (s.point p).phase ≠ .clearedUnacked) ∨ (s.point p).definition = none ∨
      ∃ g, a.scope = .group g ∧ s.groupOf p ≠ some g) →
    ∃ t, exec (.ackWalkEvent src) s = .next t ∧
      t = { s with operator := s.operator.setSlot src none, chainA := t.chainA, chainB := t.chainB } ∧ Walks s t src a none

/-- RESET_GROUP_EXAMINE enters a group that permits the source at its first member, and passes over any other group whole, going
on to the next group of scope all or completing with the reply and its counts. RESET_MEMBER_EVENT of a member in WAIT_RESET or
RINGBACK returns it to NORMAL with RESET_POINT from the action's source, closes its entry with its mark, and counts it; a point
that is no member, in another phase, or of a group that no longer permits the source is passed over (R9, R56, R80, R97, R98; that
the walk then goes on to the next point is the model's choice, log 31). -/
def Obligations.ResetWalkResetsMembers : Prop :=
  ∀ (src : Source) (s : State) (a : Action) (g : Group), s.inReset = false →
    s.journal.length ≤ Config.journalCapacity → s.operator.slot src = some a →
    (a.pos = .examine g → Permitted s g src →
      ∃ t, exec (.resetGroupExamine src) s = .next t ∧
        t = { s with operator := t.operator, chainA := t.chainA, chainB := t.chainB } ∧
        Walks s t src a (some (.member g 0))) ∧
    (a.pos = .examine g → ¬ Permitted s g src →
      ∃ t, exec (.resetGroupExamine src) s = .next t ∧
        t = { s with operator := t.operator, chainA := t.chainA, chainB := t.chainB } ∧
        Walks s t src a (afterGroup a.scope g)) ∧
    (∀ p : Point, a.pos = .member g p →
      (¬ Permitted s g src ∨ s.groupOf p ≠ some g ∨
        ((s.point p).phase ≠ .waitReset ∧ (s.point p).phase ≠ .ringback)) →
      ∃ t, exec (.resetMemberEvent src) s = .next t ∧
        t = { s with operator := t.operator, chainA := t.chainA, chainB := t.chainB } ∧
        Walks s t src a (some (afterMember g p))) ∧
    (∀ (p : Point) (d : PointDef) (e : Entry), a.pos = .member g p → Permitted s g src →
      (s.point p).definition = some d → d.group = g → (s.point p).phase ∈ [.waitReset, .ringback] → s.entry? p = some e →
      ∃ t, exec (.resetMemberEvent src) s = .next t ∧ OnlyPoint s t p ∧ OnlyGroup s t e.group ∧
        t = { s with points := t.points, groups := t.groups, alarmList := t.alarmList, journal := t.journal,
                     nextSeq := t.nextSeq, operator := t.operator, output := t.output,
                     chainA := t.chainA, chainB := t.chainB } ∧
        Walks s t src { a with pointsChanged := a.pointsChanged + 1 } (some (afterMember g p)) ∧
        t.point p = (s.point p).moved .normal none false ∧ t.alarmList = closed s.alarmList p ∧
        t.group e.group = { s.group e.group with firstOut := if e.firstOut then none else (s.group e.group).firstOut } ∧
        Grows s t ((.resetPoint .normal, src, some p, some g) :: goneItems e src) ∧ Latched s t false false)

/-- FIRST_OUT_CLEARING of a group that permits the source: a mark that is present is cleared with FIRST_OUT_CLEARED, cause RESET,
from the action's source, its entry stays and loses the mark, the output unit's copy loses it, and it is counted; an absent mark
changes nothing, and neither does the clearing of a group that no longer permits the source. The walk goes on to the next group of
scope all or completes with the reply and its counts (R9, R79, R83, R97, R98; log 31). -/
def Obligations.ResetClearsTheFirstOutMark : Prop :=
  ∀ (src : Source) (s : State) (a : Action) (g : Group), s.inReset = false →
    s.journal.length ≤ Config.journalCapacity → s.operator.slot src = some a → a.pos = .clearing g →
    ∃ t, exec (.firstOutClearing src) s = .next t ∧ OnlyGroup s t g ∧
      t = { s with points := t.points, groups := t.groups, alarmList := t.alarmList, journal := t.journal,
                   nextSeq := t.nextSeq, operator := t.operator, chainA := t.chainA, chainB := t.chainB } ∧
      (∀ p, Permitted s g src → (s.group g).firstOut = some p →
        t.group g = { s.group g with firstOut := none } ∧ OnlyPoint s t p ∧
        t.point p = { s.point p with shownMark := false } ∧
        t.alarmList = mirrored s.alarmList p (fun e => { e with firstOut := false }) ∧
        Walks s t src { a with marksCleared := a.marksCleared + 1 } (afterGroup a.scope g) ∧
        Grows s t [(.firstOutCleared .reset, src, some p, some g)]) ∧
      ((¬ Permitted s g src ∨ (s.group g).firstOut = none) →
        t = { s with operator := t.operator, chainA := t.chainA, chainB := t.chainB } ∧
        Walks s t src a (afterGroup a.scope g))

/-! ### Operator requests -/

/-- ACK and RESET: a request whose checks pass begins its action in the slot of its link, at the first position of its walk, and
stands in progress, whatever its scope; a request that fails one is refused with counts of 0, its first failed check giving the
result (R88, R94, Tables 5-2 and 5-3). -/
def Obligations.OperatorRequestsBeginOrAreRefused : Prop :=
  ∀ (isReset : Bool) (l : Link) (tag scopeByte valueByte : Byte) (s : State),
    let kind : ReqKind := if isReset then .reset else .ack
    let command : Instr := if isReset then .reset l else .ack l
    let zeros : List Byte := if isReset then [0, 0] else [0]
    let begins (scope : Scope) (pos : WalkPos) : Prop :=
      exec command s = .next (({ s with
        session := s.sessionAfter l,
        operator := s.operator.setSlot (linkSource l) (some
          { kind := if isReset then .reset else .ack, source := linkSource l, scope := scope, pos := pos,
            pointsChanged := 0, marksCleared := 0, tag := some tag }) } : State).setChain l
          { s.chain l with places := replaceFirst Place.begin (s.chain l).places })
    Accepts s l kind tag [scopeByte, valueByte] →
      (scopeByte = 2 → begins .all (if isReset then .examine 0 else .ackAt 0)) ∧
      (∀ g : Group, scopeByte = 1 → valueByte.toNat = g.val → Permitted s g (linkSource l) →
        begins (.group g) (if isReset then .examine g else .ackAt 0)) ∧
      (∀ (p : Point) (d : PointDef), isReset = false → scopeByte = 0 → valueByte.toNat = p.val →
        (s.point p).definition = some d → (s.point p).phase ≠ .outOfService → (s.point p).phase ≠ .suppressed →
        Permitted s d.group (linkSource l) → begins (.point p) (.ackAt p)) ∧
      (∀ r : Result,
        ((r = .badArgument ∧ (2 < scopeByte.toNat ∨ (scopeByte = 1 ∧ 8 ≤ valueByte.toNat) ∨
            (scopeByte = 0 ∧ (isReset = true ∨ 48 ≤ valueByte.toNat)))) ∨
          (r = .notDefined ∧ ((∃ g : Group, scopeByte = 1 ∧ valueByte.toNat = g.val ∧ (s.group g).definition = none) ∨
            (∃ p : Point, isReset = false ∧ scopeByte = 0 ∧ valueByte.toNat = p.val ∧ (s.point p).definition = none))) ∨
          (r = .wrongState ∧ ∃ p : Point, isReset = false ∧ scopeByte = 0 ∧ valueByte.toNat = p.val ∧
            (s.point p).definition ≠ none ∧ ((s.point p).phase = .outOfService ∨ (s.point p).phase = .suppressed)) ∨
          (r = .notPermitted ∧
            ((∃ g : Group, scopeByte = 1 ∧ valueByte.toNat = g.val ∧ (s.group g).definition ≠ none ∧
                ¬ Permitted s g (linkSource l)) ∨
              (∃ (p : Point) (d : PointDef), isReset = false ∧ scopeByte = 0 ∧ valueByte.toNat = p.val ∧
                (s.point p).definition = some d ∧ (s.point p).phase ≠ .outOfService ∧ (s.point p).phase ≠ .suppressed ∧
                ¬ Permitted s d.group (linkSource l))))) →
        TurnsAway s command l kind tag r zeros)

/-- SILENCE clears both latches in one event, with SILENCED naming those that were set; with both clear nothing changes. A request
is answered OK with the latches cleared, or NOTHING with none; a press of the SILENCE line is taken so at once when the panel slot
is empty and no press waits, and else joins the waiting list or merges with a waiting press of its line; its release has no effect
beyond the filtered level (R91, R92, R100). -/
def Obligations.SilenceClearsTheLatches : Prop :=
  (∀ (l : Link) (tag : Byte) (s : State), Accepts s l .silence tag [] →
    ((s.output.horn = true ∨ s.output.tone = true) →
      ∃ t, exec (.silence l) s = .next t ∧
        t = { s with session := s.sessionAfter l, output := { s.output with horn := false, tone := false },
                     journal := t.journal, nextSeq := t.nextSeq, chainA := t.chainA, chainB := t.chainB } ∧
        Acts s t l .silence tag [byte ((if s.output.horn then 1 else 0) + (if s.output.tone then 2 else 0))]
          [(.silenced s.output.horn s.output.tone, linkSource l, none, none)]) ∧
    (s.output.horn = false → s.output.tone = false → TurnsAway s (.silence l) l .silence tag .nothing [0])) ∧
  (∀ (s : State) (e : Nat), s.inReset = false → s.journal.length ≤ Config.journalCapacity →
    s.operator.silence.run = some e → 20 ≤ e → s.operator.silence.line = true →
    let settled : OperatorUnit := { s.operator with silence := { line := true, filtered := true, run := none } }
    ∃ t, exec (.panelFilteredTransition .silence) s = .next t ∧ (∀ l, Undisturbed (s.chain l) (t.chain l)) ∧
      (s.operator.slotPanel = none → s.operator.waiting = [] →
        t = { s with operator := settled, output := { s.output with horn := false, tone := false },
                     journal := t.journal, nextSeq := t.nextSeq, chainA := t.chainA, chainB := t.chainB } ∧
        Grows s t (if s.output.horn || s.output.tone then
          [(.silenced s.output.horn s.output.tone, .panel, none, none)] else [])) ∧
      ((s.operator.slotPanel ≠ none ∨ s.operator.waiting ≠ []) →
        t = { s with chainA := t.chainA, chainB := t.chainB,
                     operator := { settled with
                       waiting := if Press.silence ∈ s.operator.waiting then s.operator.waiting
                                  else s.operator.waiting ++ [.silence] } })) ∧
  (∀ (s : State) (e : Nat), s.inReset = false → s.operator.silence.run = some e → 20 ≤ e → s.operator.silence.line = false →
    ∃ t, exec (.panelFilteredTransition .silence) s = .next t ∧ (∀ l, Undisturbed (s.chain l) (t.chain l)) ∧
      t = { s with chainA := t.chainA, chainB := t.chainB,
                   operator := { s.operator with silence := { line := false, filtered := false, run := none } } })

/-- LAMP TEST: 1 to 60 s starts or restarts the host timer, 0 stops it or is answered NOTHING, above 60 is BAD_ARGUMENT; the record
that the change calls for is appended, and the reply carries lamp test and the time remaining (R113, R114). -/
def Obligations.LampTestRunsTheHostTimer : Prop :=
  ∀ (l : Link) (tag seconds : Byte) (s : State), Accepts s l .lampTest tag [seconds] →
    let sets (timer : Option Nat) (fields : List Byte) (items : List Item) : Prop :=
      ∃ t, exec (.lampTest l) s = .next t ∧
        t = { s with session := s.sessionAfter l, output := { s.output with hostTimer := timer }, journal := t.journal,
                     nextSeq := t.nextSeq, chainA := t.chainA, chainB := t.chainB } ∧
        Acts s t l .lampTest tag fields items
    (60 < seconds.toNat → TurnsAway s (.lampTest l) l .lampTest tag .badArgument []) ∧
    (1 ≤ seconds.toNat → seconds.toNat ≤ 60 →
      sets (some (seconds.toNat * 1000)) (1 :: be4 (seconds.toNat * 1000))
        (if s.output.testLevel = false ∧ s.output.hostTimer = none then [(.lampTestOn, linkSource l, none, none)] else [])) ∧
    (seconds = 0 → s.output.hostTimer ≠ none →
      sets none (boolCode s.output.testLevel :: be4 0)
        (if s.output.testLevel then [] else [(.lampTestOff, linkSource l, none, none)])) ∧
    (seconds = 0 → s.output.hostTimer = none →
      TurnsAway s (.lampTest l) l .lampTest tag .nothing (boolCode s.output.testLevel :: be4 0))

/-! ### Sessions, authority, restart, time -/

/-- HELLO opens the session of its link with SESSION OPENED; an open session is closed first, its delivery OFF with confirmed kept,
its authority dropped, with their records in order. The reply carries the identity and what stands after it. BYE closes the session
in the same way, with cause BYE (R178, R179, R164). -/
def Obligations.HelloOpensAndByeCloses : Prop :=
  ∀ (l : Link) (tag : Byte) (s : State),
    let src := linkSource l
    let held := s.session.holder = some l
    let dropped : List Item := if held then [(.authority .dropped l, src, none, none)] else []
    let freed : SessionUnit := if held then { s.session with holder := none, lease := none } else s.session
    let greeting (t : State) : List Byte :=
      [0x4A, 0x41, 0x34, 0x38, 0x03] ++ be4 s.generation.toNat ++ be4 t.oldestSeq.toNat ++ be4 t.newestSeq.toNat ++
        [boolCode s.time.isSet]
    (Accepts s l .hello tag [] →
      ∃ t, exec (.hello l) s = .next t ∧
        t = { s with session := t.session, journal := t.journal, nextSeq := t.nextSeq, chainA := t.chainA,
                     chainB := t.chainB } ∧
        (s.session.isOpen l = false →
          t.session = s.session.setOpen l true ∧ Acts s t l .hello tag (greeting t) [(.session .opened l, src, none, none)]) ∧
        (s.session.isOpen l = true →
          t.session = freed.setOpen l true ∧ Replies s t l .hello tag .ok (greeting t) ∧
          Grows s t (dropped ++ [(.session .closedHello l, src, none, none), (.session .opened l, src, none, none)]) ∧
          (t.chain l).delivery = (s.chain l).delivery.close)) ∧
    (Accepts s l .bye tag [] →
      ∃ t, exec (.bye l) s = .next t ∧
        t = { s with session := t.session, journal := t.journal, nextSeq := t.nextSeq, chainA := t.chainA,
                     chainB := t.chainB } ∧
        Replies s t l .bye tag .ok [] ∧ t.session = freed.setOpen l false ∧
        Grows s t (dropped ++ [(.session .closedBye l, src, none, none)]) ∧
        (t.chain l).delivery = (s.chain l).delivery.close)

/-- CLAIM grants free authority with a full lease and AUTHORITY TAKEN, renews the holder's lease without a record, and names the
other holder with its remaining lease as HELD_BY_OTHER, changing nothing (R183). -/
def Obligations.ClaimGrantsOrNamesTheHolder : Prop :=
  ∀ (l : Link) (tag : Byte) (s : State), Accepts s l .claim tag [] →
    let grants (items : List Item) : Prop :=
      ∃ t, exec (.claim l) s = .next t ∧
        t = { s with session := { s.session with holder := some l, lease := some 30000 }, journal := t.journal,
                     nextSeq := t.nextSeq, chainA := t.chainA, chainB := t.chainB } ∧
        Acts s t l .claim tag (linkCode (some l) :: be4 30000) items
    (s.session.holder = none → grants [(.authority .taken l, linkSource l, none, none)]) ∧
    (s.session.holder = some l → grants []) ∧
    (s.session.holder = some (otherLink l) →
      TurnsAway s (.claim l) l .claim tag .heldByOther
        (linkCode (some (otherLink l)) :: be4 (s.session.lease.getD 0)))

/-- RELEASE by the holder frees authority with AUTHORITY RELEASED and is answered OK; from another link it changes nothing and is
answered NOTHING with the holder. LEASE_EXPIRY frees authority with AUTHORITY EXPIRED from PART (R182, R184). -/
def Obligations.AuthorityIsFreedWithItsRecord : Prop :=
  (∀ (l : Link) (tag : Byte) (s : State), Accepts s l .release tag [] →
    (s.session.holder = some l →
      ∃ t, exec (.release l) s = .next t ∧
        t = { s with session := { s.session with holder := none, lease := none }, journal := t.journal, nextSeq := t.nextSeq,
                     chainA := t.chainA, chainB := t.chainB } ∧
        Acts s t l .release tag [0xFF] [(.authority .released l, linkSource l, none, none)]) ∧
    (s.session.holder ≠ some l →
      TurnsAway s (.release l) l .release tag .nothing [linkCode s.session.holder])) ∧
  (∀ (l : Link) (s : State), s.inReset = false → s.journal.length ≤ Config.journalCapacity →
    s.session.holder = some l → s.session.lease = some 0 →
    ∃ t, exec .leaseExpiry s = .next t ∧ (∀ m, Undisturbed (s.chain m) (t.chain m)) ∧
      t = { s with session := { s.session with holder := none, lease := none }, journal := t.journal, nextSeq := t.nextSeq,
                   chainA := t.chainA, chainB := t.chainB } ∧
      Grows s t [(.authority .expired l, .part, none, none)])

/-- RESTART from the holder sets restart-pending, discards the requests waiting behind it and is answered OK, with no record; while
a restart is pending it is refused with WRONG_STATE. A CONFIRM frame that completes on the pending link is discarded unread (R173,
R185). -/
def Obligations.RestartBecomesPending : Prop :=
  (∀ (l : Link) (tag : Byte) (s : State), Accepts s l .restart tag [] →
    (s.session.restartPending = none →
      ∃ t, exec (.restart l) s = .next t ∧
        t = { s with session := { s.session with lease := some 30000, restartPending := some l }, chainA := t.chainA,
                     chainB := t.chainB } ∧
        Undisturbed (s.chain (otherLink l)) (t.chain (otherLink l)) ∧
        (t.chain l).delivery = s.reported t 0 (s.chain l).delivery ∧
        ∀ before behind : List Place, (s.chain l).places = before ++ .waiting 0x05 tag [] :: behind →
          (∀ x ∈ before, Place.request? x = none) →
          Shows (s.chain l) (t.chain l)
            (before ++ .ready { kind := 0x05, tag := tag, result := .ok, fields := [] } ::
              behind.filter fun x => (Place.request? x).isNone)) ∧
    (s.session.restartPending ≠ none → TurnsAway s (.restart l) l .restart tag .wrongState [])) ∧
  (∀ (l : Link) (body : List Byte) (s : State), s.inReset = false → s.session.restartPending = some l →
    exec (.confirm l body) s = .next s)

/-- SET TIME from the holder sets the time and the flag, and appends TIME_SET, stamped with the new time, with the previous time in
its detail; the reply carries the record's number and the previous time. A millisecond of day of 86,400,000 or above is
BAD_ARGUMENT and changes nothing (R138). -/
def Obligations.SetTimeRecordsThePreviousTime : Prop :=
  ∀ (l : Link) (tag d1 d0 m3 m2 m1 m0 : Byte) (s : State), Accepts s l .setTime tag [d1, d0, m3, m2, m1, m0] →
    let ms := m3.toNat * 16777216 + m2.toNat * 65536 + m1.toNat * 256 + m0.toNat
    (ms ≤ 86399999 →
      ∃ t, exec (.setTime l) s = .next t ∧
        t = { s with session := s.sessionAfter l, time := { day := d1 ++ d0, ms := ms, isSet := true }, journal := t.journal,
                     nextSeq := t.nextSeq, chainA := t.chainA, chainB := t.chainB } ∧
        Acts s t l .setTime tag (be4 s.nextSeq.toNat ++ s.time.bytes) [(.timeSet s.time, linkSource l, none, none)]) ∧
    (86400000 ≤ ms → TurnsAway s (.setTime l) l .setTime tag .badArgument [])

/-- A request that fails check 1, 3 or 4 changes no state but the holder's lease, and is answered with the result of the first
check it fails; only a refusal for want of authority carries a field, the holder. A request of unknown kind is answered with its
own KIND echoed: NO_SESSION without a session, else UNKNOWN_KIND. The delivery of the link and the other link stand as they stood
(R174, R175, R181, R182, R191). That a malformed HELLO does not renew the lease is the model's reading (log 20). -/
def Obligations.RefusedRequestsChangeNothing : Prop :=
  (∀ (l : Link) (k : ReqKind) (tag : Byte) (body : List Byte) (s : State) (r : Result) (fields : List Byte),
    s.inReset = false → k ≠ .confirm → (s.chain l).nextRequest = some { kind := k.code, tag := tag, body := body } →
    ((k ≠ .hello ∧ s.session.isOpen l = false ∧ r = .noSession ∧ fields = []) ∨
      ((k = .hello ∨ s.session.isOpen l = true) ∧ k.formatOk body = false ∧ r = .badFormat ∧ fields = []) ∨
      (s.session.isOpen l = true ∧ k.formatOk body = true ∧ k.needsAuthority = true ∧ s.session.holder = none ∧
        r = .notAuthority ∧ fields = [0xFF]) ∨
      (s.session.isOpen l = true ∧ k.formatOk body = true ∧ k.needsAuthority = true ∧
        s.session.holder = some (otherLink l) ∧ r = .heldByOther ∧ fields = [linkCode (some (otherLink l))])) →
    TurnsAway s (kindCommand l { kind := k.code, tag := tag, body := body } k) l k tag r fields) ∧
  (∀ (l : Link) (kind tag : Byte) (body : List Byte) (s : State), s.inReset = false →
    (s.chain l).nextRequest = some { kind := kind, tag := tag, body := body } → requestKind kind = none →
    ∃ t, exec (.unknownKindRequest l) s = .next t ∧
      t = { s with session := s.sessionAfter l, chainA := t.chainA, chainB := t.chainB } ∧
      t.chain (otherLink l) = s.chain (otherLink l) ∧ (t.chain l).delivery = (s.chain l).delivery ∧
      Shows (s.chain l) (t.chain l) ((s.chain l).answered
        { kind := kind, tag := tag, result := if s.session.isOpen l then .unknownKind else .noSession, fields := [] }))

/-! ### Configuration -/

/-- DEFINE GROUP of a group whose members are all OUT_OF_SERVICE sets its five fields, each from its byte of the body, and
UNDEFINE GROUP of a defined group without members discards them; each advances the generation, appends its record and is answered
OK with the new generation. A value out of range is BAD_ARGUMENT, an UNDEFINE GROUP of an undefined group NOT_DEFINED, and a
member in service, or any member for UNDEFINE GROUP, WRONG_STATE, each with the generation and nothing changed (R6, R7, R8, R10,
Tables 1-1 and 1-3). -/
def Obligations.GroupsAreDefinedAndUndefined : Prop :=
  ∀ (l : Link) (tag : Byte) (s : State) (g : Group),
    let next : BitVec 32 := if s.generation = 0xFFFFFFFF then 1 else s.generation + 1
    let turned (c : Instr) (k : ReqKind) (r : Result) : Prop := TurnsAway s c l k tag r (be4 s.generation.toNat)
    (∀ number sequence firstOut audible sources minutes : Byte,
      Accepts s l .defineGroup tag [number, sequence, firstOut, audible, sources, minutes] →
      let d : GroupDef :=
        { sequence := if sequence = 0 then .auto else if sequence = 1 then .manual else .ringback,
          firstOutEnabled := decide (firstOut = 1), audible := decide (audible = 1),
          permitsPanel := decide (sources.toNat % 2 = 1), permitsA := decide (sources.toNat / 2 % 2 = 1),
          permitsB := decide (sources.toNat / 4 % 2 = 1), realertMinutes := minutes.toNat }
      (number.toNat = g.val → sequence.toNat ≤ 2 → firstOut.toNat ≤ 1 → audible.toNat ≤ 1 → sources.toNat ≤ 7 →
        minutes.toNat ≤ 240 →
        ((∀ p, s.groupOf p = some g → (s.point p).phase = .outOfService) →
          ∃ t, exec (.defineGroup l) s = .next t ∧ OnlyGroup s t g ∧
            t = { s with session := s.sessionAfter l, groups := t.groups, generation := next, journal := t.journal,
                         nextSeq := t.nextSeq, chainA := t.chainA, chainB := t.chainB } ∧
            t.group g = { s.group g with definition := some d } ∧
            Acts s t l .defineGroup tag (be4 next.toNat) [(.defined none next, linkSource l, none, some g)]) ∧
        ((∃ p, s.groupOf p = some g ∧ (s.point p).phase ≠ .outOfService) →
          turned (.defineGroup l) .defineGroup .wrongState)) ∧
      ((8 ≤ number.toNat ∨ 2 < sequence.toNat ∨ 1 < firstOut.toNat ∨ 1 < audible.toNat ∨ 7 < sources.toNat ∨
        240 < minutes.toNat) → turned (.defineGroup l) .defineGroup .badArgument)) ∧
    (∀ number : Byte, Accepts s l .undefineGroup tag [number] →
      (number.toNat = g.val → (s.group g).definition ≠ none → (∀ p, s.groupOf p ≠ some g) →
        ∃ t, exec (.undefineGroup l) s = .next t ∧ OnlyGroup s t g ∧
          t = { s with session := s.sessionAfter l, groups := t.groups, generation := next, journal := t.journal,
                       nextSeq := t.nextSeq, chainA := t.chainA, chainB := t.chainB } ∧
          t.group g = { s.group g with definition := none } ∧
          Acts s t l .undefineGroup tag (be4 next.toNat) [(.undefined none next, linkSource l, none, some g)]) ∧
      (number.toNat = g.val → (s.group g).definition = none → turned (.undefineGroup l) .undefineGroup .notDefined) ∧
      (number.toNat = g.val → (s.group g).definition ≠ none → (∃ p, s.groupOf p = some g) →
        turned (.undefineGroup l) .undefineGroup .wrongState) ∧
      (8 ≤ number.toNat → turned (.undefineGroup l) .undefineGroup .badArgument))

/-- DEFINE POINT of a point that is UNDEFINED or OUT_OF_SERVICE, naming a defined group, leaves it OUT_OF_SERVICE with the fields
carried, each from its bytes of the body, the filtered level at the line's level by the new sense, no filter run, qualification
and chatter idle. UNDEFINE POINT of an OUT_OF_SERVICE point discards its definition. Each advances the generation, appends its
record and is answered OK. A value out of range is BAD_ARGUMENT, an undefined group or point NOT_DEFINED, a point in service or
SUPPRESSED WRONG_STATE, each with the generation and nothing changed (R4, R5, R6, R7, R11, R12, R13, R14, Tables 1-2 and 1-3). -/
def Obligations.PointsAreDefinedAndUndefined : Prop :=
  ∀ (l : Link) (tag : Byte) (s : State) (p : Point),
    let next : BitVec 32 := if s.generation = 0xFFFFFFFF then 1 else s.generation + 1
    let turned (c : Instr) (k : ReqKind) (r : Result) : Prop := TurnsAway s c l k tag r (be4 s.generation.toNat)
    let x := s.point p
    (∀ (number group sense filter on1 on0 off1 off0 mode limit w1 w0 length : Byte) (label : List Byte),
      Accepts s l .definePoint tag
        (number :: group :: sense :: filter :: on1 :: on0 :: off1 :: off0 :: mode :: limit :: w1 :: w0 :: length :: label) →
      let on := on1.toNat * 256 + on0.toNat
      let off := off1.toNat * 256 + off0.toNat
      let window := w1.toNat * 256 + w0.toNat
      (∀ g : Group, number.toNat = p.val → group.toNat = g.val → sense.toNat ≤ 1 → 2 ≤ filter.toNat → filter.toNat ≤ 250 →
        on ≤ 6000 → off ≤ 6000 → mode.toNat ≤ 1 →
        (limit = 0 ∨ (2 ≤ limit.toNat ∧ limit.toNat ≤ 20 ∧ 10 ≤ window ∧ window ≤ 3600)) → label.length ≤ 16 →
        (∀ b ∈ label, 0x20 ≤ b.toNat ∧ b.toNat ≤ 0x7E) →
        let d : PointDef :=
          { group := g, sense := if sense = 0 then .normallyOpen else .normallyClosed, filterMs := filter.toNat, onDelay := on,
            offDelay := off, mode := if mode = 0 then .continuous else .accumulating, chatterLimit := limit.toNat,
            chatterWindow := if limit = 0 then 0 else window, label := label }
        ((s.group g).definition ≠ none → (x.phase = .undefined ∨ x.phase = .outOfService) →
          ∃ t, exec (.definePoint l) s = .next t ∧ OnlyPoint s t p ∧
            t = { s with session := s.sessionAfter l, points := t.points, generation := next, journal := t.journal,
                         nextSeq := t.nextSeq, output := t.output, chainA := t.chainA, chainB := t.chainB } ∧
            t.point p =
              { line := x.line, definition := some d, phase := .outOfService,
                filtered := if x.line = decide (sense = 0) then .abnormal else .normal,
                filterRun := none, qualified := .normalQ, delay := .idle, accumulated := 0, restartRaise := false,
                raiseCount := 0, window := none, restore := none, realert := none, shownPhase := .outOfService,
                shownMark := false } ∧
            Latched s t false false ∧
            Acts s t l .definePoint tag (be4 next.toNat)
              [(.defined (some .outOfService) next, linkSource l, some p, some g)]) ∧
        ((s.group g).definition = none → turned (.definePoint l) .definePoint .notDefined) ∧
        ((s.group g).definition ≠ none → x.phase ≠ .undefined → x.phase ≠ .outOfService →
          turned (.definePoint l) .definePoint .wrongState)) ∧
      ((48 ≤ number.toNat ∨ 8 ≤ group.toNat ∨ 1 < sense.toNat ∨ filter.toNat < 2 ∨ 250 < filter.toNat ∨ 6000 < on ∨ 6000 < off ∨
        1 < mode.toNat ∨ limit = 1 ∨ 20 < limit.toNat ∨ (limit ≠ 0 ∧ (window < 10 ∨ 3600 < window)) ∨ 16 < label.length ∨
        ∃ b ∈ label, b.toNat < 0x20 ∨ 0x7E < b.toNat) →
        turned (.definePoint l) .definePoint .badArgument)) ∧
    (∀ number : Byte, Accepts s l .undefinePoint tag [number] →
      (∀ d : PointDef, number.toNat = p.val → x.definition = some d → x.phase = .outOfService →
        ∃ t, exec (.undefinePoint l) s = .next t ∧ OnlyPoint s t p ∧
          t = { s with session := s.sessionAfter l, points := t.points, generation := next, journal := t.journal,
                       nextSeq := t.nextSeq, output := t.output, chainA := t.chainA, chainB := t.chainB } ∧
          (t.point p).definition = none ∧ (t.point p).phase = .undefined ∧ (t.point p).line = x.line ∧
          (t.point p).shownPhase = .undefined ∧ (t.point p).filterRun = none ∧ Latched s t false false ∧
          Acts s t l .undefinePoint tag (be4 next.toNat)
            [(.undefined (some .undefined) next, linkSource l, some p, some d.group)]) ∧
      (number.toNat = p.val → x.definition = none → turned (.undefinePoint l) .undefinePoint .notDefined) ∧
      (number.toNat = p.val → x.definition ≠ none → x.phase ≠ .outOfService →
        turned (.undefinePoint l) .undefinePoint .wrongState) ∧
      (48 ≤ number.toNat → turned (.undefinePoint l) .undefinePoint .badArgument))

/-- SET SERVICE out of a point in service or SUPPRESSED: OUT_OF_SERVICE with every timer cancelled and qualification idle, its
entry closed with its mark after SERVICE_OUT, the latches re-evaluated, the generation advanced. A point number or a direction out
of range is BAD_ARGUMENT, an undefined point NOT_DEFINED, a point already OUT_OF_SERVICE NOTHING, each with the generation and
nothing changed (R7, R15; that this row takes a request of neither direction is the model's choice, log 17). -/
def Obligations.ServiceOutEndsTheEpisode : Prop :=
  ∀ (l : Link) (tag number direction : Byte) (s : State), Accepts s l .setService tag [number, direction] → direction ≠ 1 →
    let turned (r : Result) : Prop := TurnsAway s (.setServiceOut l) l .setService tag r (be4 s.generation.toNat)
    (∀ (p : Point) (d : PointDef), direction = 0 → number.toNat = p.val → (s.point p).definition = some d →
      (s.point p).phase ≠ .outOfService →
      let next : BitVec 32 := if s.generation = 0xFFFFFFFF then 1 else s.generation + 1
      let x := s.point p
      ∃ t, exec (.setServiceOut l) s = .next t ∧ OnlyPoint s t p ∧
        t = { s with session := s.sessionAfter l, points := t.points, groups := t.groups, alarmList := t.alarmList,
                     generation := next, journal := t.journal, nextSeq := t.nextSeq, output := t.output,
                     chainA := t.chainA, chainB := t.chainB } ∧
        t.point p =
          { x with phase := .outOfService, qualified := .normalQ, delay := .idle, accumulated := 0, restartRaise := false,
                   raiseCount := 0, window := none, restore := none, realert := none, shownPhase := .outOfService,
                   shownMark := false } ∧
        t.alarmList = closed s.alarmList p ∧ Latched s t false false ∧
        (s.entry? p = none → t.groups = s.groups ∧
          Acts s t l .setService tag (be4 next.toNat) [(.serviceOut .outOfService, linkSource l, some p, some d.group)]) ∧
        ∀ e, s.entry? p = some e →
          OnlyGroup s t e.group ∧
          t.group e.group = { s.group e.group with firstOut := if e.firstOut then none else (s.group e.group).firstOut } ∧
          Acts s t l .setService tag (be4 next.toNat)
            ((.serviceOut .outOfService, linkSource l, some p, some d.group) :: goneItems e (linkSource l))) ∧
    ((48 ≤ number.toNat ∨ 1 < direction.toNat) → turned .badArgument) ∧
    (∀ p : Point, direction = 0 → number.toNat = p.val → (s.point p).definition = none → turned .notDefined) ∧
    (∀ p : Point, direction = 0 → number.toNat = p.val → (s.point p).definition ≠ none →
      (s.point p).phase = .outOfService → turned .nothing)

/-- SET SERVICE in of an OUT_OF_SERVICE point: NORMAL with SERVICE_IN and the generation advanced; a normal filtered level waits,
an abnormal one starts the on-delay or the accumulation, and with an on-delay of 0 raises at once, an episode begun after
SERVICE_IN in the same event. A point number out of range is BAD_ARGUMENT, an undefined point NOT_DEFINED, a SUPPRESSED point
WRONG_STATE, any other point in service NOTHING, each with the generation and nothing changed (R7, R16, R35, R37, R49). -/
def Obligations.ServiceInStartsQualification : Prop :=
  ∀ (l : Link) (tag number : Byte) (s : State), Accepts s l .setService tag [number, 1] →
    let next : BitVec 32 := if s.generation = 0xFFFFFFFF then 1 else s.generation + 1
    let turned (r : Result) : Prop := TurnsAway s (.setServiceIn l) l .setService tag r (be4 s.generation.toNat)
    (∀ (p : Point) (d : PointDef), number.toNat = p.val → (s.point p).definition = some d →
      (s.point p).phase = .outOfService → ((s.point p).filtered = .normal ∨ d.onDelay ≠ 0) →
      let x := s.point p
      ∃ t, exec (.setServiceIn l) s = .next t ∧ OnlyPoint s t p ∧
        t = { s with session := s.sessionAfter l, points := t.points, generation := next, journal := t.journal,
                     nextSeq := t.nextSeq, output := t.output, chainA := t.chainA, chainB := t.chainB } ∧
        t.point p =
          { x with phase := .normal, qualified := .normalQ, accumulated := 0, restartRaise := false, realert := none,
                   shownPhase := .normal, shownMark := false,
                   delay := if x.filtered = .normal then .idle
                            else if d.mode = .continuous then .onDelay 0 else .accumulating } ∧
        Latched s t false false ∧
        Acts s t l .setService tag (be4 next.toNat) [(.serviceIn .normal, linkSource l, some p, some d.group)]) ∧
    (∀ (p : Point) (d : PointDef) (g : GroupDef), number.toNat = p.val → (s.point p).definition = some d →
      (s.group d.group).definition = some g → (s.point p).phase = .outOfService → (s.point p).filtered = .abnormal →
      d.onDelay = 0 → (d.chatterLimit = 0 ∨ (s.point p).countedRaise < d.chatterLimit) →
      let x := s.point p
      let mark := g.firstOutEnabled && (s.group d.group).firstOut.isNone
      ∃ t, exec (.setServiceIn l) s = .next t ∧ OnlyPoint s t p ∧ OnlyGroup s t d.group ∧
        t = { s with session := s.sessionAfter l, points := t.points, groups := t.groups, alarmList := t.alarmList,
                     generation := next, journal := t.journal, nextSeq := t.nextSeq, output := t.output,
                     chainA := t.chainA, chainB := t.chainB } ∧
        t.point p =
          { x with phase := .alert, qualified := .abnormalQ, delay := .idle, accumulated := 0, restartRaise := false,
                   realert := none, shownPhase := .alert, shownMark := mark,
                   raiseCount := if d.chatterLimit = 0 then x.raiseCount else if x.window = none then 1 else x.raiseCount + 1,
                   window := if d.chatterLimit = 0 then x.window else some (x.window.getD (d.chatterWindow * 1000)) } ∧
        t.group d.group = { s.group d.group with firstOut := if mark then some p else (s.group d.group).firstOut } ∧
        t.alarmList = s.alarmList ++
          [{ point := p, group := d.group, phase := .alert, firstOut := mark, raiseCount := 1, openSeq := seqNext s.nextSeq,
             openTime := s.time, ackedBy := none, ackedAt := none }] ∧
        Latched s t g.audible false ∧
        Acts s t l .setService tag (be4 next.toNat)
          [(.serviceIn .normal, linkSource l, some p, some d.group), (.raised .alert 1 mark, .part, some p, some d.group)]) ∧
    (48 ≤ number.toNat → turned .badArgument) ∧
    (∀ p : Point, number.toNat = p.val →
      ((s.point p).definition = none → turned .notDefined) ∧
      ((s.point p).definition ≠ none → (s.point p).phase = .suppressed → turned .wrongState) ∧
      ((s.point p).definition ≠ none → (s.point p).phase ≠ .suppressed → (s.point p).phase ≠ .outOfService →
        turned .nothing))

/-- RESTORE of a SUPPRESSED point returns it to NORMAL with RESTORED, cause REQUEST, its restore timer cancelled. NORMAL_Q, it
stays there, and the reply carries NORMAL; ABNORMAL_Q, it raises in the same event, counted as the first of a window, an episode
begun after RESTORED, and the reply carries ALERT. A point number above 47 is BAD_ARGUMENT with the phase absent, an undefined
point NOT_DEFINED and a point in another phase WRONG_STATE with its phase, and change nothing (R49, R130, R131). -/
def Obligations.RestoreReturnsToNormal : Prop :=
  ∀ (l : Link) (tag number : Byte) (s : State), Accepts s l .restore tag [number] →
    (48 ≤ number.toNat → TurnsAway s (.restore l) l .restore tag .badArgument [0xFF]) ∧
    ∀ p : Point, number.toNat = p.val →
      ((s.point p).definition = none →
        TurnsAway s (.restore l) l .restore tag .notDefined [(s.point p).phase.code]) ∧
      ∀ d : PointDef, (s.point p).definition = some d →
        ((s.point p).phase ≠ .suppressed →
          TurnsAway s (.restore l) l .restore tag .wrongState [(s.point p).phase.code]) ∧
        ((s.point p).phase = .suppressed → (s.point p).qualified = .normalQ →
          ∃ t, exec (.restore l) s = .next t ∧ OnlyPoint s t p ∧
            t = { s with session := s.sessionAfter l, points := t.points, journal := t.journal, nextSeq := t.nextSeq,
                         output := t.output, chainA := t.chainA, chainB := t.chainB } ∧
            t.point p = { (s.point p).moved .normal none false with restore := none } ∧ Latched s t false false ∧
            Acts s t l .restore tag [0x02] [(.restored .normal .request, linkSource l, some p, some d.group)]) ∧
        (∀ g : GroupDef, (s.point p).phase = .suppressed → (s.point p).qualified = .abnormalQ →
          (s.group d.group).definition = some g → d.chatterLimit ≠ 0 → (s.point p).countedRaise < d.chatterLimit →
          let mark := g.firstOutEnabled && (s.group d.group).firstOut.isNone
          ∃ t, exec (.restore l) s = .next t ∧ OnlyPoint s t p ∧ OnlyGroup s t d.group ∧
            t = { s with session := s.sessionAfter l, points := t.points, groups := t.groups, alarmList := t.alarmList,
                         journal := t.journal, nextSeq := t.nextSeq, output := t.output, chainA := t.chainA,
                         chainB := t.chainB } ∧
            t.point p = { (s.point p).moved .alert none mark with
              restore := none,
              raiseCount := if (s.point p).window = none then 1 else (s.point p).raiseCount + 1,
              window := some ((s.point p).window.getD (d.chatterWindow * 1000)) } ∧
            t.group d.group = { s.group d.group with firstOut := if mark then some p else (s.group d.group).firstOut } ∧
            t.alarmList = s.alarmList ++
              [{ point := p, group := d.group, phase := .alert, firstOut := mark, raiseCount := 1,
                 openSeq := seqNext s.nextSeq, openTime := s.time, ackedBy := none, ackedAt := none }] ∧
            Latched s t g.audible false ∧
            Acts s t l .restore tag [0x03]
              [(.restored .normal .request, linkSource l, some p, some d.group),
                (.raised .alert 1 mark, .part, some p, some d.group)])

/-! ### Reads -/

/-- READ STATUS, READ POINT, READ GROUP, READ LIST and READ JOURNAL are answered with the fields of Table 12-5, written out here
but for the bytes of an entry and a record, which LayoutsHaveTheirLengths writes out, all taken at once, and change nothing but
the holder's lease and the reply's place and line (R18, R19, R39, R84, R85, R149, R150, R188, R191). What an OUT_OF_SERVICE and an
undefined point show as delay and accumulated time is the model's reading (log 24). -/
def Obligations.ReadsAnswerAndChangeNothing : Prop :=
  ∀ (l : Link) (tag : Byte) (s : State),
    let reads (c : Instr) (k : ReqKind) (r : Result) (fields : List Byte) : Prop :=
      ∃ t, exec c s = .next t ∧ t = { s with session := s.sessionAfter l, chainA := t.chainA, chainB := t.chainB } ∧
        Answers s t l k tag r fields
    let flag (b : Bool) : Byte := if b then 1 else 0
    let absent4 : List Byte := [0xFF, 0xFF, 0xFF, 0xFF]
    let remaining (n : Option Nat) : List Byte := match n with | some n => be4 n | none => absent4
    let number (n : Option Seq) : List Byte := match n with | some n => be4 n.toNat | none => [0, 0, 0, 0]
    let delivery (d : Delivery) : List Byte :=
      [(match d.state with | .off => 0 | .live => 1 | .silent => 2 : Byte)] ++ number d.confirmed ++ number d.next ++ [byte d.retry]
    let link (h : Option Link) : Byte := match h with | some .a => 1 | some .b => 2 | none => 0xFF
    let members (g : Group) : List Point := (List.finRange 48).filter fun p => decide (s.groupOf p = some g)
    (Accepts s l .readStatus tag [] → reads (.readStatus l) .readStatus .ok
      (([0x4A, 0x41, 0x34, 0x38, 0x03] : List Byte) ++ [(if s.session.lastColdReset = .power then 0 else 1 : Byte)] ++
        [(match s.rate with | .b9600 => 0 | .b19200 => 1 | .b57600 => 2 | .b115200 => 3 : Byte)] ++
        be2 s.time.day.toNat ++ be4 s.time.ms ++ [flag s.time.isSet] ++ be4 s.generation.toNat ++
        be4 s.oldestSeq.toNat ++ be4 s.newestSeq.toNat ++ [flag s.session.openA, flag s.session.openB] ++
        [link s.session.holder] ++ be4 ((s.leaseAfter l).getD 0) ++ [link s.session.restartPending] ++
        delivery s.chainA.delivery ++ delivery s.chainB.delivery ++
        [flag s.output.horn, flag s.output.tone, flag s.common,
          flag (s.output.testLevel || s.output.hostTimer.isSome), flag s.output.testLevel] ++
        be4 (s.output.hostTimer.getD 0) ++ [byte s.alarmList.length])) ∧
    (∀ n : Byte, Accepts s l .readPoint tag [n] →
      (∀ p : Point, n.toNat = p.val →
        let x := s.point p
        (∀ d, x.definition = some d → reads (.readPoint l) .readPoint .ok
          ([byte p.val, 1, x.phase.code, byte d.group.val, (if d.sense = .normallyOpen then 0 else 1 : Byte), byte d.filterMs] ++
            be2 d.onDelay ++ be2 d.offDelay ++ [(if d.mode = .continuous then 0 else 1 : Byte), byte d.chatterLimit] ++
            be2 d.chatterWindow ++ [byte d.label.length] ++ d.label ++
            [flag (decide (x.line = decide (d.sense = .normallyOpen))), (if x.filtered = .normal then 0 else 1 : Byte)] ++
            (if x.phase = .outOfService ∨ x.phase = .undefined then ([0xFF, 0xFF] : List Byte) ++ absent4
             else
              [(if x.qualified = .normalQ then 0 else 1 : Byte),
                (match x.delay with | .idle => 0 | .onDelay _ => 1 | .accumulating => 1 | .offDelay _ => 2 | .forget _ => 2 : Byte)] ++
              be4 (match x.delay with
                | .idle => 0 | .onDelay e => e | .accumulating => x.accumulated | .offDelay e => e | .forget e => e)) ++
            be4 x.accumulated ++ [byte x.raiseCount] ++ remaining x.window ++ remaining x.restore ++ remaining x.realert ++
            [flag (decide ((s.group d.group).firstOut = some p))] ++ be4 s.generation.toNat)) ∧
        (x = { PointState.cold with line := x.line } → reads (.readPoint l) .readPoint .ok
          ([byte p.val, 0, 0] ++ (List.replicate 11 0xFF : List Byte) ++ ([0] : List Byte) ++ absent4 ++ absent4 ++ absent4 ++ [0] ++
            absent4 ++ absent4 ++ absent4 ++ [0] ++ be4 s.generation.toNat))) ∧
      (48 ≤ n.toNat → reads (.readPoint l) .readPoint .badArgument [])) ∧
    (∀ n : Byte, Accepts s l .readGroup tag [n] →
      (∀ g : Group, n.toNat = g.val → reads (.readGroup l) .readGroup .ok
        ([byte g.val, flag (s.group g).definition.isSome] ++
          (match (s.group g).definition with
            | some d =>
              [(match d.sequence with | .auto => 0 | .manual => 1 | .ringback => 2 : Byte), flag d.firstOutEnabled, flag d.audible,
                byte ((if d.permitsPanel then 1 else 0) + (if d.permitsA then 2 else 0) + (if d.permitsB then 4 else 0)),
                byte d.realertMinutes]
            | none => (List.replicate 5 0xFF : List Byte)) ++
          [(match (s.group g).firstOut with | some p => byte p.val | none => 0xFF : Byte)] ++ be4 s.generation.toNat ++
          [byte ((members g).filter fun p => decide ((s.point p).phase ≠ .undefined ∧ (s.point p).phase ≠ .outOfService)).length,
            byte (members g).length] ++ (members g).map fun p => byte p.val)) ∧
      (8 ≤ n.toNat → reads (.readGroup l) .readGroup .badArgument [])) ∧
    (∀ start most : Byte, Accepts s l .readList tag [start, most] →
      (1 ≤ most.toNat → most.toNat ≤ 8 →
        reads (.readList l) .readList .ok
          ([byte s.alarmList.length, start, byte (min most.toNat (s.alarmList.length - start.toNat))] ++
            be4 s.newestSeq.toNat ++ ((s.alarmList.drop start.toNat).take most.toNat).flatMap Entry.bytes)) ∧
      (most = 0 ∨ 8 < most.toNat → reads (.readList l) .readList .badArgument [])) ∧
    (∀ (n3 n2 n1 n0 most : Byte), Accepts s l .readJournal tag [n3, n2, n1, n0, most] →
      let n : Seq := n3 ++ n2 ++ n1 ++ n0
      let page (first : Nat) (truncated : Bool) : List Byte :=
        flag truncated :: (be4 s.oldestSeq.toNat ++ be4 s.newestSeq.toNat ++
          [byte (min most.toNat (s.journal.length - first))] ++
          ((s.journal.drop first).take most.toNat).flatMap Record.bytes)
      (1 ≤ most.toNat → most.toNat ≤ 8 → n ≠ 0 →
        (s.position n = .held → reads (.readJournal l) .readJournal .ok (page (forward s.oldestSeq n) false)) ∧
        (s.position n = .behind → reads (.readJournal l) .readJournal .ok (page 0 true)) ∧
        (s.position n = .next → reads (.readJournal l) .readJournal .ok (page s.journal.length false)) ∧
        (s.position n = .ahead → reads (.readJournal l) .readJournal .badArgument [])) ∧
      (most = 0 ∨ 8 < most.toNat ∨ n = 0 → reads (.readJournal l) .readJournal .badArgument []))

/-! ### Report delivery -/

/-- An accepted SUBSCRIBE starts the delivery where Table 9-2 says, LIVE, with no offers of before, and then offers; the reply
carries TRUNCATED, the first number to be reported and the journal's bounds; a start of 0 or ahead is BAD_ARGUMENT and leaves the
delivery exactly as it stood (R157, R158). -/
def Obligations.SubscribeStartsTheDelivery : Prop :=
  ∀ (l : Link) (tag : Byte) (body : List Byte) (s : State), Accepts s l .subscribe tag body →
    let starts (confirmed next : Seq) (truncated : Bool) : Prop :=
      ∃ t, exec (.subscribe l) s = .next t ∧
        t = { s with session := s.sessionAfter l, chainA := t.chainA, chainB := t.chainB } ∧
        (t.chain l).delivery =
          Delivery.offerUpTo s.isHeld 4
            { state := .live, confirmed := some confirmed, next := some next, retry := 0, timer := none, offers := [] } ∧
        Replies s t l .subscribe tag .ok
          (boolCode truncated :: (be4 next.toNat ++ be4 s.oldestSeq.toNat ++ be4 s.newestSeq.toNat))
    (body = [] → starts s.newestSeq s.nextSeq false) ∧
    ∀ n3 n2 n1 n0 : Byte, body = [n3, n2, n1, n0] →
      let n : Seq := n3 ++ n2 ++ n1 ++ n0
      (n ≠ 0 →
        (s.position n = .held → starts (if n = 1 then 0xFFFFFFFF else n - 1) n false) ∧
        (s.position n = .next → starts s.newestSeq n false) ∧
        (s.position n = .behind →
          starts (if s.oldestSeq = 1 then 0xFFFFFFFF else s.oldestSeq - 1) s.oldestSeq true)) ∧
      (n = 0 ∨ s.position n = .ahead → TurnsAway s (.subscribe l) l .subscribe tag .badArgument [])

/-- UNSUBSCRIBE of a LIVE or SILENT delivery makes it OFF: no offers, no timer, retry count 0, confirmed kept and next the number
after it, answered OK with confirmed; of an OFF delivery it changes nothing and is answered NOTHING with confirmed (R159). -/
def Obligations.UnsubscribeTurnsTheDeliveryOff : Prop :=
  ∀ (l : Link) (tag : Byte) (s : State), Accepts s l .unsubscribe tag [] →
    let d := (s.chain l).delivery
    (d.state ≠ .off →
      ∃ t, exec (.unsubscribe l) s = .next t ∧
        t = { s with session := s.sessionAfter l, chainA := t.chainA, chainB := t.chainB } ∧
        (t.chain l).delivery =
          { state := .off, confirmed := d.confirmed, next := d.confirmed.map seqNext, retry := 0, timer := none,
            offers := [] } ∧
        Replies s t l .unsubscribe tag .ok (seqBytes d.confirmed)) ∧
    (d.state = .off → TurnsAway s (.unsubscribe l) l .unsubscribe tag .nothing (seqBytes d.confirmed))

/-- CONFIRM of a number in flight moves confirmed to it, takes the numbers up to it out of the offer list, sets the retry count to
0, restarts the timer when records remain in flight and stops it when none does; the delivery then offers what it can, and the
link's transmitter begins a frame if its line is free. Any other CONFIRM leaves the delivery unchanged. Either renews the holder's
lease; one without a session or of another length is discarded (R155, R160, R176, R182). -/
def Obligations.ConfirmAdvancesOrIsIgnored : Prop :=
  ∀ (l : Link) (body : List Byte) (s : State), s.inReset = false → s.session.restartPending ≠ some l →
    ∃ t, exec (.confirm l body) s = .next t ∧
      ((s.session.isOpen l = false ∨ body.length ≠ 4) → t = s) ∧
      ∀ n3 n2 n1 n0 : Byte, s.session.isOpen l = true → body = [n3, n2, n1, n0] →
        let n : Seq := n3 ++ n2 ++ n1 ++ n0
        let d := (s.chain l).delivery
        (∀ c nx : Seq, d.state = .live → d.confirmed = some c → d.next = some nx → n ≠ 0 → 0 < forward c n →
          forward c n < forward c nx →
          t = { s with session := s.sessionAfter l, chainA := t.chainA, chainB := t.chainB } ∧
          (t.chain l).delivery.state = .live ∧ (t.chain l).delivery.confirmed = some n ∧
          (t.chain l).delivery.retry = 0 ∧ (t.chain l).rx = (s.chain l).rx ∧
          (1 < forward n nx → (t.chain l).delivery.timer = some 500) ∧
          (forward n nx ≤ 1 → s.isHeld nx = false → (t.chain l).delivery.timer = none) ∧
          Undisturbed (s.chain (otherLink l)) (t.chain (otherLink l)) ∧
          let offered := Delivery.offerUpTo s.isHeld 4
            { state := .live, confirmed := some n, next := some nx, retry := 0,
              timer := if forward n nx ≤ 1 then none else some 500,
              offers := d.offers.filter fun o => decide (forward c n < forward c o.seq) }
          (t.chain l).delivery = { offered with offers := (t.chain l).delivery.offers } ∧
          Transmits s { s.chain l with delivery := offered } (t.chain l)) ∧
        ((d.state ≠ .live ∨ d.confirmed = none ∨ n = 0 ∨ d.confirmed = some n ∨
            (∃ c nx, d.confirmed = some c ∧ d.next = some nx ∧ forward c nx ≤ forward c n)) →
          t = { s with session := s.sessionAfter l })

/-- RETRANSMISSION_EXPIRY below a retry count of 4 raises the count, offers the whole window again, as repeats but for waiting first
sendings, and restarts the timer; with the line free the link's transmitter then begins the oldest reply waiting or, failing one, the
first of these reports (R161, R176). At 4 the delivery falls SILENT with nothing in flight and DELIVERY_SILENT is appended; the link's
receiver, places and line stand as they stood, unless the line is free with a reply waiting, which then begins (R162, R176). -/
def Obligations.RetransmissionRepeatsOrFallsSilent : Prop :=
  ∀ (l : Link) (s : State), s.inReset = false → s.journal.length ≤ Config.journalCapacity →
    let d := (s.chain l).delivery
    d.state = .live → d.timer = some 0 →
    ∃ t, exec (.retransmissionExpiry l) s = .next t ∧
      (d.retry < 4 →
        let again : Delivery := { d with
          retry := d.retry + 1, timer := some 500,
          offers := d.flight.map fun n => { seq := n, isRepeat := !d.offers.contains { seq := n, isRepeat := false } } }
        t = s.setChain l (t.chain l) ∧ (t.chain l).rx = (s.chain l).rx ∧
        (t.chain l).delivery = { again with offers := (t.chain l).delivery.offers } ∧
        Transmits s { s.chain l with delivery := again } (t.chain l)) ∧
      (d.retry = 4 →
        t = { s with journal := t.journal, nextSeq := t.nextSeq, chainA := t.chainA, chainB := t.chainB } ∧
        (t.chain l).delivery =
          { state := .silent, confirmed := d.confirmed, next := d.confirmed.map seqNext, retry := 0, timer := none,
            offers := [] } ∧
        Shows (s.chain l) (t.chain l) (s.chain l).places ∧
        (((s.chain l).line.isSome = true ∨ firstReady (s.chain l).places = none) →
          (t.chain l).places = (s.chain l).places ∧ (t.chain l).line = (s.chain l).line) ∧
        Undisturbed (s.chain (otherLink l)) (t.chain (otherLink l)) ∧
        Grows s t [(.deliverySilent l, .part, none, none)])

/-- Offering stops only with four records in flight or at the journal's next number: a LIVE delivery within a sound journal
reaches one or the other, its new offers first sendings (R155). A drop moves a LIVE delivery past the record just after confirmed
and leaves any other as it stands (R163). Every step keeps what a LIVE delivery holds: at most four records in flight, all held in
the journal, the offers among them in order, the timer running exactly while one is in flight (R152). -/
def Obligations.OffersFillTheWindow : Prop :=
  (∀ (s : State) (d : Delivery) (c n : Seq), s.journalSound → d.state = .live → d.confirmed = some c → d.next = some n →
    c ≠ 0 → n ≠ 0 → (s.isHeld n = true ∨ n = s.nextSeq) → 1 ≤ forward c n → forward c n ≤ 5 →
    let e := d.offerUpTo s.isHeld 4
    (e.inFlight = 4 ∨ e.next = some s.nextSeq) ∧
      ∃ k, k ≤ 4 ∧ e.offers = d.offers ++ (seqsFrom k n).map fun m => { seq := m, isRepeat := false }) ∧
  (∀ (d : Delivery) (m : Seq),
    (d.state ≠ .live ∨ (∀ c, d.confirmed = some c → seqNext c ≠ m) → d.drop m = d) ∧
    ∀ c n, d.state = .live → d.confirmed = some c → d.next = some n → seqNext c = m →
      d.drop m =
        { d with confirmed := some m, next := some (if n = m then seqNext m else n),
                 offers := d.offers.filter fun o => decide (o.seq ≠ m),
                 timer := if forward m (if n = m then seqNext m else n) ≤ 1 then none else d.timer }) ∧
  ∀ s t : State, step s = .next t → s.journalSound → s.windowsSound → t.windowsSound

/-! ### Links -/

/-- The receiver on a good byte: SYNC begins a frame in HUNT and no other byte does; LEN up to 240 is kept, above it ends the frame;
KIND, TAG, the body and the first CHECK byte are kept; each restarts the inter-byte timer. A stop-bit error, and the inter-byte
timeout at 50 ms, return the receiver to HUNT (R170, R171, R172). -/
def Obligations.ReceiverFollowsItsTable : Prop :=
  ∀ (l : Link) (s : State) (b : Byte), s.inReset = false →
    let c := s.chain l
    let x := c.rx
    let becomes (i : Instr) (y : Receiver) : Prop := exec i s = .next (s.setChain l { c with rx := y })
    let byteTaken := becomes (.byteArrival l b true)
    (x.state = .hunt →
      (b = 0xA5 → byteTaken { state := .length, crc := 0xFFFF, due := 0, frame := [], timer := some 0 }) ∧
      (b ≠ 0xA5 → byteTaken x) ∧ becomes (.byteArrival l b false) x) ∧
    (x.state = .length →
      (b.toNat ≤ 240 →
        byteTaken { state := .header, crc := crcByte x.crc b, due := b.toNat, frame := [b], timer := some 0 }) ∧
      (240 < b.toNat → byteTaken Receiver.cold)) ∧
    (∀ len : Byte, x.state = .header → x.frame = [len] →
      byteTaken { state := .header, crc := crcByte x.crc b, due := x.due, frame := [len, b], timer := some 0 }) ∧
    (∀ len kind : Byte, x.state = .header → x.frame = [len, kind] →
      byteTaken { state := if x.due = 0 then .check else .body, crc := crcByte x.crc b, due := x.due,
                  frame := [len, kind, b], timer := some 0 }) ∧
    (x.state = .body →
      byteTaken { state := if x.due ≤ 1 then .check else .body, crc := crcByte x.crc b, due := x.due - 1,
                  frame := x.frame ++ [b], timer := some 0 }) ∧
    (x.state = .check → x.frame.length = 3 + (x.frame.getD 0 0).toNat →
      byteTaken { x with frame := x.frame ++ [b], timer := some 0 }) ∧
    (x.state ≠ .hunt → becomes (.byteArrival l b false) Receiver.cold) ∧
    (∀ e, x.timer = some e → 50 ≤ e → becomes (.interByteTimeout l) Receiver.cold)

/-- The second CHECK byte ends the frame: with a wrong CHECK it is discarded; a complete frame of a kind other than CONFIRM joins
the reply queue as a request waiting, or is discarded when all four places are occupied or a restart is pending on the link. A
complete frame of kind CONFIRM takes no place: the receiver goes to HUNT, and the CONFIRM is taken with the frame's body in the
same event, whatever the queue holds, or is discarded while a restart is pending on the link (R170, R171, R173; what CONFIRM does
is ConfirmAdvancesOrIsIgnored; that the command CONFIRM stands for this part of the event is log 23). -/
def Obligations.CompleteFrameTakesAPlace : Prop :=
  ∀ (l : Link) (s : State) (len kind tag check1 check0 : Byte) (body : List Byte), s.inReset = false →
    let c := s.chain l
    c.rx.state = .check → c.rx.frame = len :: kind :: tag :: (body ++ [check1]) → len.toNat = body.length →
    let hunting : Chain := { c with rx := Receiver.cold }
    (check1 ++ check0 ≠ c.rx.crc → exec (.byteArrival l check0 true) s = .next (s.setChain l hunting)) ∧
    (check1 ++ check0 = c.rx.crc → kind ≠ 0x36 →
      exec (.byteArrival l check0 true) s = .next (s.setChain l
        (if s.session.restartPending ≠ some l ∧ c.places.length < 4 then
          { hunting with places := c.places ++ [.waiting kind tag body] } else hunting))) ∧
    (check1 ++ check0 = c.rx.crc → kind = 0x36 →
      exec (.byteArrival l check0 true) s = exec (.confirm l body) (s.setChain l hunting) ∧
      (s.session.restartPending = some l ∨ s.session.isOpen l = false ∨ body.length ≠ 4 →
        exec (.byteArrival l check0 true) s = .next (s.setChain l hunting)))

/-- TRANSMIT_END frees the line, and the place of a reply that was on it; the oldest reply waiting is sent next, failing one the
report at the head of the offer list, failing both nothing (R156, R176, R193). -/
def Obligations.TransmitEndChoosesTheNextFrame : Prop :=
  ∀ (l : Link) (s : State) (f : TxFrame), s.inReset = false →
    let c := s.chain l
    c.line = some f → ((replyOnLine c.places).map Reply.restarts).getD false = false →
    let places := freeOnLine c.places
    (∀ r, firstReady places = some r →
      exec (.transmitEnd l) s = .next (s.setChain l
        { c with places := replaceFirst Place.toLine places, line := some { bytes := r.frame, elapsed := 0 } })) ∧
    (∀ (o : Offer) (rest : List Offer) (r : Record), firstReady places = none → c.delivery.offers = o :: rest →
      s.record? o.seq = some r →
      exec (.transmitEnd l) s = .next (s.setChain l
        { c with
          places := places, delivery := { c.delivery with offers := rest },
          line := some
            { bytes := frameBytes 0x81 0 (boolCode o.isRepeat :: (seqBytes c.delivery.confirmed ++
                seqBytes c.delivery.next ++ be4 s.oldestSeq.toNat ++ be4 s.newestSeq.toNat ++ r.bytes)),
              elapsed := 0 } })) ∧
    (firstReady places = none → c.delivery.offers = [] →
      exec (.transmitEnd l) s = .next (s.setChain l { c with places := places, line := none }))

/-- The end of an accepted RESTART's reply is the warm restart: every point in service or SUPPRESSED is NORMAL, the alarm list,
the marks, the latches, the host timer, the slots and the reply queues are empty, sessions and authority are gone, both deliveries
are OFF with confirmed kept, and START with cause RESTART is appended; definitions, generation, time, filters, panel lines, the
cycle position, the line rate and the journal's records are kept (R21, R42, R69, R87, R107, R123, R135, R137, R148, R153, R180,
R186). -/
def Obligations.WarmRestartRestartsEveryBlock : Prop :=
  ∀ (l : Link) (s : State) (f : TxFrame) (r : Reply), s.inReset = false → s.journal.length ≤ Config.journalCapacity →
    (s.chain l).line = some f → replyOnLine (s.chain l).places = some r → r.kind = 0x05 → r.result = .ok →
    ∃ t, exec (.transmitEnd l) s = .next t ∧
      t = { s with points := t.points, groups := t.groups, alarmList := [], journal := t.journal, nextSeq := t.nextSeq,
                   operator := { s.operator with slotPanel := none, slotA := none, slotB := none, waiting := [] },
                   output := { s.output with horn := false, tone := false, hostTimer := none },
                   session := { openA := false, openB := false, holder := none, lease := none, restartPending := none,
                                lastColdReset := s.session.lastColdReset },
                   chainA := t.chainA, chainB := t.chainB } ∧
      (∀ g, t.group g = { s.group g with firstOut := none }) ∧
      (∀ m, (t.chain m).rx = Receiver.cold ∧ (t.chain m).places = [] ∧
        (t.chain m).line = (if m = l then none else (s.chain m).line) ∧
        (t.chain m).delivery =
          { state := .off, confirmed := (s.chain m).delivery.confirmed,
            next := (s.chain m).delivery.confirmed.map seqNext, retry := 0, timer := none, offers := [] }) ∧
      Grows s t [(.start .restart, .part, none, none)] ∧
      ∀ p, (t.point p).line = (s.point p).line ∧ (t.point p).definition = (s.point p).definition ∧
        (t.point p).filtered = (s.point p).filtered ∧ (t.point p).filterRun = (s.point p).filterRun ∧
        (t.point p).raiseCount = 0 ∧ (t.point p).window = none ∧ (t.point p).restore = none ∧
        (t.point p).realert = none ∧ (t.point p).shownMark = false ∧ (t.point p).shownPhase = (t.point p).phase ∧
        ((s.point p).phase ∈ [.undefined, .outOfService] → (t.point p).phase = (s.point p).phase) ∧
        ((s.point p).phase ∉ [.undefined, .outOfService] → (t.point p).phase = .normal ∧
          ∀ d, (s.point p).definition = some d →
            (t.point p).qualified = .normalQ ∧ (t.point p).accumulated = 0 ∧
            ((s.point p).filtered = .normal → (t.point p).delay = .idle ∧ (t.point p).restartRaise = false) ∧
            ((s.point p).filtered = .abnormal →
              (d.onDelay = 0 → (t.point p).delay = .idle ∧ (t.point p).restartRaise = true) ∧
              (d.onDelay ≠ 0 → (t.point p).restartRaise = false ∧
                (t.point p).delay = if d.mode = .continuous then .onDelay 0 else .accumulating)))

/-! ### Resets -/

/-- COLD_RESET leaves every block at its cold-reset values: nothing defined, every phase UNDEFINED, an empty alarm list, the time
0 and not set, both links at rest at the rate of the straps, both deliveries OFF, no session and no authority, and the journal
with START, cause by the source, as number 1: POWER when power came up in this reset, whether or not RSTN was held as well, else
LINE; a TEST line held through it adds LAMP_TEST_ON from PANEL. RESET_ASSERTED holds every output inactive and keeps the source
(R20, R41, R68, R87, R107, R122, R135, R137, R147, R153, R167, R180, R187). Of the model's own: COLD_RESET taken outside reset
stands for the whole reset (log 8), the rest of the state is kept unread during reset (log 9), and an idle receiver and an
undefined point hold the values of log 7 and 10. -/
def Obligations.ColdResetClearsEverything : Prop :=
  (∀ (cause : ResetCause) (rate1 rate0 : Bool) (s : State),
    let source : ResetCause := if cause = .power then .power else if s.inReset then s.resetSource else .line
    ∃ t, exec (.coldReset cause rate1 rate0) s = .next t ∧ t.inReset = false ∧
      (∀ p, t.point p = { PointState.cold with line := (s.point p).line }) ∧
      (∀ g, (t.group g).definition = none ∧ (t.group g).firstOut = none) ∧
      t.generation = 0 ∧ t.alarmList = [] ∧ t.time = { day := 0, ms := 0, isSet := false } ∧
      t.rate = (if rate1 then (if rate0 then .b115200 else .b57600) else (if rate0 then .b19200 else .b9600)) ∧
      t.chainA = Chain.cold ∧ t.chainB = Chain.cold ∧
      t.session = { openA := false, openB := false, holder := none, lease := none, restartPending := none,
                    lastColdReset := source } ∧
      t.output = { cycle := 0, horn := false, tone := false, testLevel := s.operator.test.line, hostTimer := none } ∧
      (∀ line, t.operator.panelLine line =
        { line := (s.operator.panelLine line).line, filtered := (s.operator.panelLine line).line, run := none }) ∧
      t.operator.slotPanel = none ∧ t.operator.slotA = none ∧ t.operator.slotB = none ∧ t.operator.waiting = [] ∧
      t.journal = recordsFrom 1 { day := 0, ms := 0, isSet := false }
        ((.start (if source = .power then .power else .line), .part, none, none) ::
          (if s.operator.test.line then [(.lampTestOn, .panel, none, none)] else [])) ∧
      t.nextSeq = if s.operator.test.line then 3 else 2) ∧
  (∀ (cause : ResetCause) (s : State),
    ∃ t, exec (.resetAsserted cause) s = .next t ∧ t.inReset = true ∧ (∀ p, t.lampOn p = false) ∧
      t.hornOutput = false ∧ t.toneOutput = false ∧ t.commonOutput = false ∧ t.chainA.line = none ∧
      t.chainB.line = none ∧
      t.resetSource = (if cause = .power then .power else if s.inReset then s.resetSource else .line) ∧
      t = { s with supply := t.supply, rstnActive := t.rstnActive, resetSource := t.resetSource,
                   chainA := { s.chainA with line := none }, chainB := { s.chainB with line := none } })

/-! ### Outputs, numbers and layouts -/

/-- Lamp n shows the pattern of its point's phase and mark at the cycle position, and STEADY during lamp test (Tables 6-1, 6-2;
R109, R110, R116); the HORN and TONE outputs follow their latches (R120); COMMON is active exactly when a point is in ALERT or
ACKED, by the output unit's copies (R121). -/
def Obligations.OutputsFollowTheCopies : Prop :=
  ∀ s : State, s.inReset = false →
    s.hornOutput = s.output.horn ∧ s.toneOutput = s.output.tone ∧
    (∀ p, s.lampOn p = true ↔
      (s.output.testLevel = true ∨ s.output.hostTimer ≠ none ∨
        match (s.point p).shownPhase, (s.point p).shownMark with
        | .alert, true => s.output.cycle < 100 ∨ (200 ≤ s.output.cycle ∧ s.output.cycle < 300)
        | .acked, true => s.output.cycle < 100 ∨ (200 ≤ s.output.cycle ∧ s.output.cycle < 300)
        | .clearedUnacked, true => s.output.cycle < 100 ∨ (200 ≤ s.output.cycle ∧ s.output.cycle < 300)
        | .alert, false => s.output.cycle % 250 < 125
        | .clearedUnacked, false => s.output.cycle % 250 < 125
        | .acked, false => True
        | .waitReset, _ => True
        | .ringback, _ => s.output.cycle < 500
        | .normal, _ => False
        | .outOfService, _ => False
        | .suppressed, _ => False
        | .undefined, _ => False)) ∧
    (s.commonOutput = true ↔ ∃ p, (s.point p).shownPhase = .alert ∨ (s.point p).shownPhase = .acked)

/-- In a sound journal a number from 1 on stands Held exactly when a record with it is held (R143, R144). -/
def Obligations.HeldMeansARecordIsHeld : Prop :=
  ∀ (s : State) (n : Seq), s.journalSound → n ≠ 0 → (s.position n = .held ↔ ∃ r ∈ s.journal, r.seq = n)

/-- The layouts: CHECK over "123456789" is 29B1h, and a frame is SYNC, LEN, KIND, TAG, the body and CHECK (R169); numbers are sent
most significant byte first (R189); the codes of Tables 12-1 to 12-3; a REPLY frame (R191); a record in 22 bytes, by the kind
codes and details of Tables 12-6 and 12-7 (R192); an EVENT frame of 45 bytes (R193); an entry in 24 bytes, by Table 12-8. -/
def Obligations.LayoutsHaveTheirLengths : Prop :=
  let flag (b : Bool) : Byte := if b then 1 else 0
  let four (n : BitVec 32) : List Byte :=
    [n.extractLsb' 24 8, n.extractLsb' 16 8, n.extractLsb' 8 8, n.extractLsb' 0 8]
  let stamp (t : Stamp) : List Byte :=
    [t.day.extractLsb' 8 8, t.day.extractLsb' 0 8] ++ four (BitVec.ofNat 32 t.ms) ++ [flag t.isSet]
  let link (l : Link) : Byte := match l with | .a => 1 | .b => 2
  let source (x : Source) : Byte := match x with | .panel => 0 | .linkA => 1 | .linkB => 2 | .part => 3
  let phase (ph : Phase) : Byte :=
    match ph with
    | .undefined => 0 | .outOfService => 1 | .normal => 2 | .alert => 3 | .acked => 4 | .clearedUnacked => 5
    | .waitReset => 6 | .ringback => 7 | .suppressed => 8
  let defined (ph : Option Phase) (generation : BitVec 32) : List Byte :=
    (match ph with | some ph => [phase ph] | none => []) ++ four generation
  let kind (k : RecordKind) : Byte × List Byte :=
    match k with
    | .start .power => (0x01, [0])
    | .start .line => (0x01, [1])
    | .start .restart => (0x01, [2])
    | .raised ph count mark => (0x02, [phase ph, BitVec.ofNat 8 count, flag mark])
    | .cleared ph => (0x03, [phase ph])
    | .acked ph => (0x04, [phase ph])
    | .realert ph => (0x05, [phase ph])
    | .resetPoint ph => (0x06, [phase ph])
    | .firstOutCleared .reset => (0x07, [0])
    | .firstOutCleared .gone => (0x07, [1])
    | .silenced horn tone => (0x08, [flag horn + 2 * flag tone])
    | .suppressed ph => (0x09, [phase ph])
    | .restored ph .auto => (0x0A, [phase ph, 0])
    | .restored ph .request => (0x0A, [phase ph, 1])
    | .serviceOut ph => (0x0B, [phase ph])
    | .serviceIn ph => (0x0C, [phase ph])
    | .defined ph generation => (0x0D, defined ph generation)
    | .undefined ph generation => (0x0E, defined ph generation)
    | .timeSet t =>
      (0x0F, [t.day.extractLsb' 8 8, t.day.extractLsb' 0 8] ++ four (BitVec.ofNat 32 (t.ms + if t.isSet then 2147483648 else 0)))
    | .lampTestOn => (0x10, [])
    | .lampTestOff => (0x11, [])
    | .authority .taken l => (0x12, [0, link l])
    | .authority .released l => (0x12, [1, link l])
    | .authority .expired l => (0x12, [2, link l])
    | .authority .dropped l => (0x12, [3, link l])
    | .session .opened l => (0x13, [0, 0xFF, link l])
    | .session .closedBye l => (0x13, [1, 0, link l])
    | .session .closedHello l => (0x13, [1, 1, link l])
    | .deliverySilent l => (0x14, [link l])
  crcOf [0x31, 0x32, 0x33, 0x34, 0x35, 0x36, 0x37, 0x38, 0x39] = 0x29B1 ∧
    (∀ n : BitVec 32, be4 n.toNat = four n) ∧ (∀ n : BitVec 16, be2 n.toNat = [n.extractLsb' 8 8, n.extractLsb' 0 8]) ∧
    (∀ (kind tag : Byte) (body : List Byte),
      let covered := BitVec.ofNat 8 body.length :: kind :: tag :: body
      frameBytes kind tag body = 0xA5 :: (covered ++ [(crcOf covered).extractLsb' 8 8, (crcOf covered).extractLsb' 0 8])) ∧
    (∀ r : Reply, r.frame = frameBytes 0x80 r.tag (r.kind :: r.result.code :: r.fields)) ∧
    (∀ r : Record, r.bytes.length = 22 ∧
      r.bytes = four r.seq ++ stamp r.stamp ++
        [(kind r.kind).1, source r.source, (match r.point with | some p => BitVec.ofNat 8 p.val | none => 0xFF : Byte),
          (match r.group with | some g => BitVec.ofNat 8 g.val | none => 0xFF : Byte), BitVec.ofNat 8 (kind r.kind).2.length] ++
        (kind r.kind).2 ++ List.replicate (6 - (kind r.kind).2.length) 0) ∧
    (∀ e : Entry, e.bytes.length = 24 ∧
      e.bytes = [BitVec.ofNat 8 e.point.val, BitVec.ofNat 8 e.group.val, phase e.phase, flag e.firstOut,
          BitVec.ofNat 8 e.raiseCount] ++
        four e.openSeq ++ stamp e.openTime ++ [(match e.ackedBy with | some x => source x | none => 0xFF : Byte)] ++
        (match e.ackedAt with | some t => stamp t | none => List.replicate 7 0xFF)) ∧
    (∀ (s : State) (d : Delivery) (o : Offer) (r : Record), (s.reportFrame d o r).length = 45 ∧
      s.reportFrame d o r = frameBytes 0x81 0 (flag o.isRepeat :: (four (d.confirmed.getD 0) ++ four (d.next.getD 0) ++
        four s.oldestSeq ++ four s.newestSeq ++ r.bytes))) ∧
    (∀ ph : Phase, ph.code = phase ph) ∧ (∀ x : Source, sourceCode x = source x) ∧
    [Result.ok, .nothing, .noSession, .unknownKind, .badFormat, .badArgument, .notDefined, .wrongState, .notAuthority,
      .heldByOther, .notPermitted].map Result.code = [0, 1, 2, 3, 4, 5, 6, 7, 8, 9, 10] ∧
    [none, some Link.a, some Link.b].map linkCode = [0xFF, 1, 2] ∧
    [ReqKind.hello, .bye, .claim, .release, .restart, .readStatus].map ReqKind.code = [0x01, 0x02, 0x03, 0x04, 0x05, 0x06] ∧
    [ReqKind.defineGroup, .undefineGroup, .definePoint, .undefinePoint, .setService, .restore, .setTime].map ReqKind.code =
      [0x10, 0x11, 0x12, 0x13, 0x14, 0x15, 0x16] ∧
    [ReqKind.ack, .reset, .silence, .lampTest].map ReqKind.code = [0x20, 0x21, 0x22, 0x23] ∧
    [ReqKind.readPoint, .readGroup, .readList, .readJournal, .subscribe, .unsubscribe, .confirm].map ReqKind.code =
      [0x30, 0x31, 0x32, 0x33, 0x34, 0x35, 0x36]
end

