-- ==== Sys2Proof/Laws/State.lean ====
section
/-! SUPPORT. One small lemma per field for each named update of the state, and reading back what an update wrote. -/

namespace Sys2Proof.Machine

/-! ### Reading back -/

/-- A point reads back as written, every other point as before. -/
theorem State.point_modifyPoint (s : State) (p q : Point) (f : PointState → PointState) :
    (s.modifyPoint p f).point q = if q = p then f (s.point p) else s.point q := by
  by_cases h : q = p
  · subst h; simp [State.point, State.modifyPoint]
  · have : p.val ≠ q.val := fun e => h (Fin.ext e.symm)
    simp [State.point, State.modifyPoint, h, this]

@[simp] theorem State.point_modifyPoint_self (s : State) (p : Point) (f : PointState → PointState) :
    (s.modifyPoint p f).point p = f (s.point p) := by
  simp [State.point_modifyPoint]

theorem State.point_modifyPoint_ne (s : State) {p q : Point} (h : q ≠ p) (f : PointState → PointState) :
    (s.modifyPoint p f).point q = s.point q := by
  simp [State.point_modifyPoint, h]

/-- A group reads back as written, every other group as before. -/
theorem State.group_modifyGroup (s : State) (g k : Group) (f : GroupState → GroupState) :
    (s.modifyGroup g f).group k = if k = g then f (s.group g) else s.group k := by
  by_cases h : k = g
  · subst h; simp [State.group, State.modifyGroup]
  · have : g.val ≠ k.val := fun e => h (Fin.ext e.symm)
    simp [State.group, State.modifyGroup, h, this]

@[simp] theorem State.group_modifyGroup_self (s : State) (g : Group) (f : GroupState → GroupState) :
    (s.modifyGroup g f).group g = f (s.group g) := by
  simp [State.group_modifyGroup]

/-- A chain reads back as written, the other chain as before. -/
theorem State.chain_setChain (s : State) (l m : Link) (c : Chain) :
    (s.setChain l c).chain m = if m = l then c else s.chain m := by
  cases l <;> cases m <;> rfl

@[simp] theorem State.chain_setChain_self (s : State) (l : Link) (c : Chain) : (s.setChain l c).chain l = c := by
  cases l <;> rfl

@[simp] theorem State.point_mapPoints (s : State) (f : PointState → PointState) (p : Point) :
    (s.mapPoints f).point p = f (s.point p) := by
  simp [State.point, State.mapPoints]

/-- Points are equal when the tables are. -/
theorem State.point_congr {s t : State} (h : t.points = s.points) (p : Point) : t.point p = s.point p := by
  simp [State.point, h]

/-- Two states with equal fields are equal. -/
theorem State.eq_of_fields {s t : State} (h : t.pending = s.pending ∧ t.supply = s.supply ∧
    t.rstnActive = s.rstnActive ∧ t.resetSource = s.resetSource ∧ t.rate = s.rate ∧ t.points = s.points ∧
    t.groups = s.groups ∧ t.generation = s.generation ∧ t.alarmList = s.alarmList ∧ t.journal = s.journal ∧
    t.nextSeq = s.nextSeq ∧ t.time = s.time ∧ t.operator = s.operator ∧ t.output = s.output ∧
    t.session = s.session ∧ t.chainA = s.chainA ∧ t.chainB = s.chainB ∧ t.choices = s.choices) : t = s := by
  obtain ⟨h1, h2, h3, h4, h5, h6, h7, h8, h9, h10, h11, h12, h13, h14, h15, h16, h17, h18⟩ := h
  cases s; cases t; simp_all

/-- Groups are equal when the tables are. -/
theorem State.group_congr {s t : State} (h : t.groups = s.groups) (g : Group) : t.group g = s.group g := by
  simp [State.group, h]

/-! ### modifyPoint -/

@[simp] theorem State.modifyPoint_pending (s : State) (p : Point) (f : PointState → PointState) :
    (s.modifyPoint p f).pending = s.pending := rfl

@[simp] theorem State.modifyPoint_supply (s : State) (p : Point) (f : PointState → PointState) :
    (s.modifyPoint p f).supply = s.supply := rfl

@[simp] theorem State.modifyPoint_rstnActive (s : State) (p : Point) (f : PointState → PointState) :
    (s.modifyPoint p f).rstnActive = s.rstnActive := rfl

@[simp] theorem State.modifyPoint_resetSource (s : State) (p : Point) (f : PointState → PointState) :
    (s.modifyPoint p f).resetSource = s.resetSource := rfl

@[simp] theorem State.modifyPoint_rate (s : State) (p : Point) (f : PointState → PointState) :
    (s.modifyPoint p f).rate = s.rate := rfl

@[simp] theorem State.modifyPoint_groups (s : State) (p : Point) (f : PointState → PointState) :
    (s.modifyPoint p f).groups = s.groups := rfl

@[simp] theorem State.modifyPoint_generation (s : State) (p : Point) (f : PointState → PointState) :
    (s.modifyPoint p f).generation = s.generation := rfl

@[simp] theorem State.modifyPoint_alarmList (s : State) (p : Point) (f : PointState → PointState) :
    (s.modifyPoint p f).alarmList = s.alarmList := rfl

@[simp] theorem State.modifyPoint_journal (s : State) (p : Point) (f : PointState → PointState) :
    (s.modifyPoint p f).journal = s.journal := rfl

@[simp] theorem State.modifyPoint_nextSeq (s : State) (p : Point) (f : PointState → PointState) :
    (s.modifyPoint p f).nextSeq = s.nextSeq := rfl

@[simp] theorem State.modifyPoint_time (s : State) (p : Point) (f : PointState → PointState) :
    (s.modifyPoint p f).time = s.time := rfl

@[simp] theorem State.modifyPoint_operator (s : State) (p : Point) (f : PointState → PointState) :
    (s.modifyPoint p f).operator = s.operator := rfl

@[simp] theorem State.modifyPoint_output (s : State) (p : Point) (f : PointState → PointState) :
    (s.modifyPoint p f).output = s.output := rfl

@[simp] theorem State.modifyPoint_session (s : State) (p : Point) (f : PointState → PointState) :
    (s.modifyPoint p f).session = s.session := rfl

@[simp] theorem State.modifyPoint_chainA (s : State) (p : Point) (f : PointState → PointState) :
    (s.modifyPoint p f).chainA = s.chainA := rfl

@[simp] theorem State.modifyPoint_chainB (s : State) (p : Point) (f : PointState → PointState) :
    (s.modifyPoint p f).chainB = s.chainB := rfl

@[simp] theorem State.modifyPoint_choices (s : State) (p : Point) (f : PointState → PointState) :
    (s.modifyPoint p f).choices = s.choices := rfl

/-! ### mapPoints -/

@[simp] theorem State.mapPoints_pending (s : State) (f : PointState → PointState) :
    (s.mapPoints f).pending = s.pending := rfl

@[simp] theorem State.mapPoints_supply (s : State) (f : PointState → PointState) :
    (s.mapPoints f).supply = s.supply := rfl

@[simp] theorem State.mapPoints_rstnActive (s : State) (f : PointState → PointState) :
    (s.mapPoints f).rstnActive = s.rstnActive := rfl

@[simp] theorem State.mapPoints_resetSource (s : State) (f : PointState → PointState) :
    (s.mapPoints f).resetSource = s.resetSource := rfl

@[simp] theorem State.mapPoints_rate (s : State) (f : PointState → PointState) :
    (s.mapPoints f).rate = s.rate := rfl

@[simp] theorem State.mapPoints_groups (s : State) (f : PointState → PointState) :
    (s.mapPoints f).groups = s.groups := rfl

@[simp] theorem State.mapPoints_generation (s : State) (f : PointState → PointState) :
    (s.mapPoints f).generation = s.generation := rfl

@[simp] theorem State.mapPoints_alarmList (s : State) (f : PointState → PointState) :
    (s.mapPoints f).alarmList = s.alarmList := rfl

@[simp] theorem State.mapPoints_journal (s : State) (f : PointState → PointState) :
    (s.mapPoints f).journal = s.journal := rfl

@[simp] theorem State.mapPoints_nextSeq (s : State) (f : PointState → PointState) :
    (s.mapPoints f).nextSeq = s.nextSeq := rfl

@[simp] theorem State.mapPoints_time (s : State) (f : PointState → PointState) :
    (s.mapPoints f).time = s.time := rfl

@[simp] theorem State.mapPoints_operator (s : State) (f : PointState → PointState) :
    (s.mapPoints f).operator = s.operator := rfl

@[simp] theorem State.mapPoints_output (s : State) (f : PointState → PointState) :
    (s.mapPoints f).output = s.output := rfl

@[simp] theorem State.mapPoints_session (s : State) (f : PointState → PointState) :
    (s.mapPoints f).session = s.session := rfl

@[simp] theorem State.mapPoints_chainA (s : State) (f : PointState → PointState) :
    (s.mapPoints f).chainA = s.chainA := rfl

@[simp] theorem State.mapPoints_chainB (s : State) (f : PointState → PointState) :
    (s.mapPoints f).chainB = s.chainB := rfl

@[simp] theorem State.mapPoints_choices (s : State) (f : PointState → PointState) :
    (s.mapPoints f).choices = s.choices := rfl

/-! ### modifyGroup -/

@[simp] theorem State.modifyGroup_pending (s : State) (g : Group) (f : GroupState → GroupState) :
    (s.modifyGroup g f).pending = s.pending := rfl

@[simp] theorem State.modifyGroup_supply (s : State) (g : Group) (f : GroupState → GroupState) :
    (s.modifyGroup g f).supply = s.supply := rfl

@[simp] theorem State.modifyGroup_rstnActive (s : State) (g : Group) (f : GroupState → GroupState) :
    (s.modifyGroup g f).rstnActive = s.rstnActive := rfl

@[simp] theorem State.modifyGroup_resetSource (s : State) (g : Group) (f : GroupState → GroupState) :
    (s.modifyGroup g f).resetSource = s.resetSource := rfl

@[simp] theorem State.modifyGroup_rate (s : State) (g : Group) (f : GroupState → GroupState) :
    (s.modifyGroup g f).rate = s.rate := rfl

@[simp] theorem State.modifyGroup_points (s : State) (g : Group) (f : GroupState → GroupState) :
    (s.modifyGroup g f).points = s.points := rfl

@[simp] theorem State.modifyGroup_generation (s : State) (g : Group) (f : GroupState → GroupState) :
    (s.modifyGroup g f).generation = s.generation := rfl

@[simp] theorem State.modifyGroup_alarmList (s : State) (g : Group) (f : GroupState → GroupState) :
    (s.modifyGroup g f).alarmList = s.alarmList := rfl

@[simp] theorem State.modifyGroup_journal (s : State) (g : Group) (f : GroupState → GroupState) :
    (s.modifyGroup g f).journal = s.journal := rfl

@[simp] theorem State.modifyGroup_nextSeq (s : State) (g : Group) (f : GroupState → GroupState) :
    (s.modifyGroup g f).nextSeq = s.nextSeq := rfl

@[simp] theorem State.modifyGroup_time (s : State) (g : Group) (f : GroupState → GroupState) :
    (s.modifyGroup g f).time = s.time := rfl

@[simp] theorem State.modifyGroup_operator (s : State) (g : Group) (f : GroupState → GroupState) :
    (s.modifyGroup g f).operator = s.operator := rfl

@[simp] theorem State.modifyGroup_output (s : State) (g : Group) (f : GroupState → GroupState) :
    (s.modifyGroup g f).output = s.output := rfl

@[simp] theorem State.modifyGroup_session (s : State) (g : Group) (f : GroupState → GroupState) :
    (s.modifyGroup g f).session = s.session := rfl

@[simp] theorem State.modifyGroup_chainA (s : State) (g : Group) (f : GroupState → GroupState) :
    (s.modifyGroup g f).chainA = s.chainA := rfl

@[simp] theorem State.modifyGroup_chainB (s : State) (g : Group) (f : GroupState → GroupState) :
    (s.modifyGroup g f).chainB = s.chainB := rfl

@[simp] theorem State.modifyGroup_choices (s : State) (g : Group) (f : GroupState → GroupState) :
    (s.modifyGroup g f).choices = s.choices := rfl

/-! ### setChain -/

@[simp] theorem State.setChain_pending (s : State) (l : Link) (c : Chain) :
    (s.setChain l c).pending = s.pending := by cases l <;> rfl

@[simp] theorem State.setChain_supply (s : State) (l : Link) (c : Chain) :
    (s.setChain l c).supply = s.supply := by cases l <;> rfl

@[simp] theorem State.setChain_rstnActive (s : State) (l : Link) (c : Chain) :
    (s.setChain l c).rstnActive = s.rstnActive := by cases l <;> rfl

@[simp] theorem State.setChain_resetSource (s : State) (l : Link) (c : Chain) :
    (s.setChain l c).resetSource = s.resetSource := by cases l <;> rfl

@[simp] theorem State.setChain_rate (s : State) (l : Link) (c : Chain) :
    (s.setChain l c).rate = s.rate := by cases l <;> rfl

@[simp] theorem State.setChain_points (s : State) (l : Link) (c : Chain) :
    (s.setChain l c).points = s.points := by cases l <;> rfl

@[simp] theorem State.setChain_groups (s : State) (l : Link) (c : Chain) :
    (s.setChain l c).groups = s.groups := by cases l <;> rfl

@[simp] theorem State.setChain_generation (s : State) (l : Link) (c : Chain) :
    (s.setChain l c).generation = s.generation := by cases l <;> rfl

@[simp] theorem State.setChain_alarmList (s : State) (l : Link) (c : Chain) :
    (s.setChain l c).alarmList = s.alarmList := by cases l <;> rfl

@[simp] theorem State.setChain_journal (s : State) (l : Link) (c : Chain) :
    (s.setChain l c).journal = s.journal := by cases l <;> rfl

@[simp] theorem State.setChain_nextSeq (s : State) (l : Link) (c : Chain) :
    (s.setChain l c).nextSeq = s.nextSeq := by cases l <;> rfl

@[simp] theorem State.setChain_time (s : State) (l : Link) (c : Chain) :
    (s.setChain l c).time = s.time := by cases l <;> rfl

@[simp] theorem State.setChain_operator (s : State) (l : Link) (c : Chain) :
    (s.setChain l c).operator = s.operator := by cases l <;> rfl

@[simp] theorem State.setChain_output (s : State) (l : Link) (c : Chain) :
    (s.setChain l c).output = s.output := by cases l <;> rfl

@[simp] theorem State.setChain_session (s : State) (l : Link) (c : Chain) :
    (s.setChain l c).session = s.session := by cases l <;> rfl

@[simp] theorem State.setChain_choices (s : State) (l : Link) (c : Chain) :
    (s.setChain l c).choices = s.choices := by cases l <;> rfl

/-! ### modifyDelivery -/

@[simp] theorem State.modifyDelivery_pending (s : State) (l : Link) (f : Delivery → Delivery) :
    (s.modifyDelivery l f).pending = s.pending := by cases l <;> rfl

@[simp] theorem State.modifyDelivery_supply (s : State) (l : Link) (f : Delivery → Delivery) :
    (s.modifyDelivery l f).supply = s.supply := by cases l <;> rfl

@[simp] theorem State.modifyDelivery_rstnActive (s : State) (l : Link) (f : Delivery → Delivery) :
    (s.modifyDelivery l f).rstnActive = s.rstnActive := by cases l <;> rfl

@[simp] theorem State.modifyDelivery_resetSource (s : State) (l : Link) (f : Delivery → Delivery) :
    (s.modifyDelivery l f).resetSource = s.resetSource := by cases l <;> rfl

@[simp] theorem State.modifyDelivery_rate (s : State) (l : Link) (f : Delivery → Delivery) :
    (s.modifyDelivery l f).rate = s.rate := by cases l <;> rfl

@[simp] theorem State.modifyDelivery_points (s : State) (l : Link) (f : Delivery → Delivery) :
    (s.modifyDelivery l f).points = s.points := by cases l <;> rfl

@[simp] theorem State.modifyDelivery_groups (s : State) (l : Link) (f : Delivery → Delivery) :
    (s.modifyDelivery l f).groups = s.groups := by cases l <;> rfl

@[simp] theorem State.modifyDelivery_generation (s : State) (l : Link) (f : Delivery → Delivery) :
    (s.modifyDelivery l f).generation = s.generation := by cases l <;> rfl

@[simp] theorem State.modifyDelivery_alarmList (s : State) (l : Link) (f : Delivery → Delivery) :
    (s.modifyDelivery l f).alarmList = s.alarmList := by cases l <;> rfl

@[simp] theorem State.modifyDelivery_journal (s : State) (l : Link) (f : Delivery → Delivery) :
    (s.modifyDelivery l f).journal = s.journal := by cases l <;> rfl

@[simp] theorem State.modifyDelivery_nextSeq (s : State) (l : Link) (f : Delivery → Delivery) :
    (s.modifyDelivery l f).nextSeq = s.nextSeq := by cases l <;> rfl

@[simp] theorem State.modifyDelivery_time (s : State) (l : Link) (f : Delivery → Delivery) :
    (s.modifyDelivery l f).time = s.time := by cases l <;> rfl

@[simp] theorem State.modifyDelivery_operator (s : State) (l : Link) (f : Delivery → Delivery) :
    (s.modifyDelivery l f).operator = s.operator := by cases l <;> rfl

@[simp] theorem State.modifyDelivery_output (s : State) (l : Link) (f : Delivery → Delivery) :
    (s.modifyDelivery l f).output = s.output := by cases l <;> rfl

@[simp] theorem State.modifyDelivery_session (s : State) (l : Link) (f : Delivery → Delivery) :
    (s.modifyDelivery l f).session = s.session := by cases l <;> rfl

@[simp] theorem State.modifyDelivery_choices (s : State) (l : Link) (f : Delivery → Delivery) :
    (s.modifyDelivery l f).choices = s.choices := by cases l <;> rfl

/-! ### replacePlace -/

@[simp] theorem State.replacePlace_pending (s : State) (l : Link) (f : Place → Option Place) :
    (s.replacePlace l f).pending = s.pending := by cases l <;> rfl

@[simp] theorem State.replacePlace_supply (s : State) (l : Link) (f : Place → Option Place) :
    (s.replacePlace l f).supply = s.supply := by cases l <;> rfl

@[simp] theorem State.replacePlace_rstnActive (s : State) (l : Link) (f : Place → Option Place) :
    (s.replacePlace l f).rstnActive = s.rstnActive := by cases l <;> rfl

@[simp] theorem State.replacePlace_resetSource (s : State) (l : Link) (f : Place → Option Place) :
    (s.replacePlace l f).resetSource = s.resetSource := by cases l <;> rfl

@[simp] theorem State.replacePlace_rate (s : State) (l : Link) (f : Place → Option Place) :
    (s.replacePlace l f).rate = s.rate := by cases l <;> rfl

@[simp] theorem State.replacePlace_points (s : State) (l : Link) (f : Place → Option Place) :
    (s.replacePlace l f).points = s.points := by cases l <;> rfl

@[simp] theorem State.replacePlace_groups (s : State) (l : Link) (f : Place → Option Place) :
    (s.replacePlace l f).groups = s.groups := by cases l <;> rfl

@[simp] theorem State.replacePlace_generation (s : State) (l : Link) (f : Place → Option Place) :
    (s.replacePlace l f).generation = s.generation := by cases l <;> rfl

@[simp] theorem State.replacePlace_alarmList (s : State) (l : Link) (f : Place → Option Place) :
    (s.replacePlace l f).alarmList = s.alarmList := by cases l <;> rfl

@[simp] theorem State.replacePlace_journal (s : State) (l : Link) (f : Place → Option Place) :
    (s.replacePlace l f).journal = s.journal := by cases l <;> rfl

@[simp] theorem State.replacePlace_nextSeq (s : State) (l : Link) (f : Place → Option Place) :
    (s.replacePlace l f).nextSeq = s.nextSeq := by cases l <;> rfl

@[simp] theorem State.replacePlace_time (s : State) (l : Link) (f : Place → Option Place) :
    (s.replacePlace l f).time = s.time := by cases l <;> rfl

@[simp] theorem State.replacePlace_operator (s : State) (l : Link) (f : Place → Option Place) :
    (s.replacePlace l f).operator = s.operator := by cases l <;> rfl

@[simp] theorem State.replacePlace_output (s : State) (l : Link) (f : Place → Option Place) :
    (s.replacePlace l f).output = s.output := by cases l <;> rfl

@[simp] theorem State.replacePlace_session (s : State) (l : Link) (f : Place → Option Place) :
    (s.replacePlace l f).session = s.session := by cases l <;> rfl

@[simp] theorem State.replacePlace_choices (s : State) (l : Link) (f : Place → Option Place) :
    (s.replacePlace l f).choices = s.choices := by cases l <;> rfl

/-! ### setReceiver -/

@[simp] theorem State.setReceiver_pending (s : State) (l : Link) (x : Receiver) :
    (s.setReceiver l x).pending = s.pending := by cases l <;> rfl

@[simp] theorem State.setReceiver_supply (s : State) (l : Link) (x : Receiver) :
    (s.setReceiver l x).supply = s.supply := by cases l <;> rfl

@[simp] theorem State.setReceiver_rstnActive (s : State) (l : Link) (x : Receiver) :
    (s.setReceiver l x).rstnActive = s.rstnActive := by cases l <;> rfl

@[simp] theorem State.setReceiver_resetSource (s : State) (l : Link) (x : Receiver) :
    (s.setReceiver l x).resetSource = s.resetSource := by cases l <;> rfl

@[simp] theorem State.setReceiver_rate (s : State) (l : Link) (x : Receiver) :
    (s.setReceiver l x).rate = s.rate := by cases l <;> rfl

@[simp] theorem State.setReceiver_points (s : State) (l : Link) (x : Receiver) :
    (s.setReceiver l x).points = s.points := by cases l <;> rfl

@[simp] theorem State.setReceiver_groups (s : State) (l : Link) (x : Receiver) :
    (s.setReceiver l x).groups = s.groups := by cases l <;> rfl

@[simp] theorem State.setReceiver_generation (s : State) (l : Link) (x : Receiver) :
    (s.setReceiver l x).generation = s.generation := by cases l <;> rfl

@[simp] theorem State.setReceiver_alarmList (s : State) (l : Link) (x : Receiver) :
    (s.setReceiver l x).alarmList = s.alarmList := by cases l <;> rfl

@[simp] theorem State.setReceiver_journal (s : State) (l : Link) (x : Receiver) :
    (s.setReceiver l x).journal = s.journal := by cases l <;> rfl

@[simp] theorem State.setReceiver_nextSeq (s : State) (l : Link) (x : Receiver) :
    (s.setReceiver l x).nextSeq = s.nextSeq := by cases l <;> rfl

@[simp] theorem State.setReceiver_time (s : State) (l : Link) (x : Receiver) :
    (s.setReceiver l x).time = s.time := by cases l <;> rfl

@[simp] theorem State.setReceiver_operator (s : State) (l : Link) (x : Receiver) :
    (s.setReceiver l x).operator = s.operator := by cases l <;> rfl

@[simp] theorem State.setReceiver_output (s : State) (l : Link) (x : Receiver) :
    (s.setReceiver l x).output = s.output := by cases l <;> rfl

@[simp] theorem State.setReceiver_session (s : State) (l : Link) (x : Receiver) :
    (s.setReceiver l x).session = s.session := by cases l <;> rfl

@[simp] theorem State.setReceiver_choices (s : State) (l : Link) (x : Receiver) :
    (s.setReceiver l x).choices = s.choices := by cases l <;> rfl

/-! ### freeLine -/

@[simp] theorem State.freeLine_pending (s : State) (l : Link) :
    (s.freeLine l).pending = s.pending := by cases l <;> rfl

@[simp] theorem State.freeLine_supply (s : State) (l : Link) :
    (s.freeLine l).supply = s.supply := by cases l <;> rfl

@[simp] theorem State.freeLine_rstnActive (s : State) (l : Link) :
    (s.freeLine l).rstnActive = s.rstnActive := by cases l <;> rfl

@[simp] theorem State.freeLine_resetSource (s : State) (l : Link) :
    (s.freeLine l).resetSource = s.resetSource := by cases l <;> rfl

@[simp] theorem State.freeLine_rate (s : State) (l : Link) :
    (s.freeLine l).rate = s.rate := by cases l <;> rfl

@[simp] theorem State.freeLine_points (s : State) (l : Link) :
    (s.freeLine l).points = s.points := by cases l <;> rfl

@[simp] theorem State.freeLine_groups (s : State) (l : Link) :
    (s.freeLine l).groups = s.groups := by cases l <;> rfl

@[simp] theorem State.freeLine_generation (s : State) (l : Link) :
    (s.freeLine l).generation = s.generation := by cases l <;> rfl

@[simp] theorem State.freeLine_alarmList (s : State) (l : Link) :
    (s.freeLine l).alarmList = s.alarmList := by cases l <;> rfl

@[simp] theorem State.freeLine_journal (s : State) (l : Link) :
    (s.freeLine l).journal = s.journal := by cases l <;> rfl

@[simp] theorem State.freeLine_nextSeq (s : State) (l : Link) :
    (s.freeLine l).nextSeq = s.nextSeq := by cases l <;> rfl

@[simp] theorem State.freeLine_time (s : State) (l : Link) :
    (s.freeLine l).time = s.time := by cases l <;> rfl

@[simp] theorem State.freeLine_operator (s : State) (l : Link) :
    (s.freeLine l).operator = s.operator := by cases l <;> rfl

@[simp] theorem State.freeLine_output (s : State) (l : Link) :
    (s.freeLine l).output = s.output := by cases l <;> rfl

@[simp] theorem State.freeLine_session (s : State) (l : Link) :
    (s.freeLine l).session = s.session := by cases l <;> rfl

@[simp] theorem State.freeLine_choices (s : State) (l : Link) :
    (s.freeLine l).choices = s.choices := by cases l <;> rfl

/-! ### modifySession -/

@[simp] theorem State.modifySession_pending (s : State) (f : SessionUnit → SessionUnit) :
    (s.modifySession f).pending = s.pending := rfl

@[simp] theorem State.modifySession_supply (s : State) (f : SessionUnit → SessionUnit) :
    (s.modifySession f).supply = s.supply := rfl

@[simp] theorem State.modifySession_rstnActive (s : State) (f : SessionUnit → SessionUnit) :
    (s.modifySession f).rstnActive = s.rstnActive := rfl

@[simp] theorem State.modifySession_resetSource (s : State) (f : SessionUnit → SessionUnit) :
    (s.modifySession f).resetSource = s.resetSource := rfl

@[simp] theorem State.modifySession_rate (s : State) (f : SessionUnit → SessionUnit) :
    (s.modifySession f).rate = s.rate := rfl

@[simp] theorem State.modifySession_points (s : State) (f : SessionUnit → SessionUnit) :
    (s.modifySession f).points = s.points := rfl

@[simp] theorem State.modifySession_groups (s : State) (f : SessionUnit → SessionUnit) :
    (s.modifySession f).groups = s.groups := rfl

@[simp] theorem State.modifySession_generation (s : State) (f : SessionUnit → SessionUnit) :
    (s.modifySession f).generation = s.generation := rfl

@[simp] theorem State.modifySession_alarmList (s : State) (f : SessionUnit → SessionUnit) :
    (s.modifySession f).alarmList = s.alarmList := rfl

@[simp] theorem State.modifySession_journal (s : State) (f : SessionUnit → SessionUnit) :
    (s.modifySession f).journal = s.journal := rfl

@[simp] theorem State.modifySession_nextSeq (s : State) (f : SessionUnit → SessionUnit) :
    (s.modifySession f).nextSeq = s.nextSeq := rfl

@[simp] theorem State.modifySession_time (s : State) (f : SessionUnit → SessionUnit) :
    (s.modifySession f).time = s.time := rfl

@[simp] theorem State.modifySession_operator (s : State) (f : SessionUnit → SessionUnit) :
    (s.modifySession f).operator = s.operator := rfl

@[simp] theorem State.modifySession_output (s : State) (f : SessionUnit → SessionUnit) :
    (s.modifySession f).output = s.output := rfl

@[simp] theorem State.modifySession_chainA (s : State) (f : SessionUnit → SessionUnit) :
    (s.modifySession f).chainA = s.chainA := rfl

@[simp] theorem State.modifySession_chainB (s : State) (f : SessionUnit → SessionUnit) :
    (s.modifySession f).chainB = s.chainB := rfl

@[simp] theorem State.modifySession_choices (s : State) (f : SessionUnit → SessionUnit) :
    (s.modifySession f).choices = s.choices := rfl

/-! ### modifyOperator -/

@[simp] theorem State.modifyOperator_pending (s : State) (f : OperatorUnit → OperatorUnit) :
    (s.modifyOperator f).pending = s.pending := rfl

@[simp] theorem State.modifyOperator_supply (s : State) (f : OperatorUnit → OperatorUnit) :
    (s.modifyOperator f).supply = s.supply := rfl

@[simp] theorem State.modifyOperator_rstnActive (s : State) (f : OperatorUnit → OperatorUnit) :
    (s.modifyOperator f).rstnActive = s.rstnActive := rfl

@[simp] theorem State.modifyOperator_resetSource (s : State) (f : OperatorUnit → OperatorUnit) :
    (s.modifyOperator f).resetSource = s.resetSource := rfl

@[simp] theorem State.modifyOperator_rate (s : State) (f : OperatorUnit → OperatorUnit) :
    (s.modifyOperator f).rate = s.rate := rfl

@[simp] theorem State.modifyOperator_points (s : State) (f : OperatorUnit → OperatorUnit) :
    (s.modifyOperator f).points = s.points := rfl

@[simp] theorem State.modifyOperator_groups (s : State) (f : OperatorUnit → OperatorUnit) :
    (s.modifyOperator f).groups = s.groups := rfl

@[simp] theorem State.modifyOperator_generation (s : State) (f : OperatorUnit → OperatorUnit) :
    (s.modifyOperator f).generation = s.generation := rfl

@[simp] theorem State.modifyOperator_alarmList (s : State) (f : OperatorUnit → OperatorUnit) :
    (s.modifyOperator f).alarmList = s.alarmList := rfl

@[simp] theorem State.modifyOperator_journal (s : State) (f : OperatorUnit → OperatorUnit) :
    (s.modifyOperator f).journal = s.journal := rfl

@[simp] theorem State.modifyOperator_nextSeq (s : State) (f : OperatorUnit → OperatorUnit) :
    (s.modifyOperator f).nextSeq = s.nextSeq := rfl

@[simp] theorem State.modifyOperator_time (s : State) (f : OperatorUnit → OperatorUnit) :
    (s.modifyOperator f).time = s.time := rfl

@[simp] theorem State.modifyOperator_output (s : State) (f : OperatorUnit → OperatorUnit) :
    (s.modifyOperator f).output = s.output := rfl

@[simp] theorem State.modifyOperator_session (s : State) (f : OperatorUnit → OperatorUnit) :
    (s.modifyOperator f).session = s.session := rfl

@[simp] theorem State.modifyOperator_chainA (s : State) (f : OperatorUnit → OperatorUnit) :
    (s.modifyOperator f).chainA = s.chainA := rfl

@[simp] theorem State.modifyOperator_chainB (s : State) (f : OperatorUnit → OperatorUnit) :
    (s.modifyOperator f).chainB = s.chainB := rfl

@[simp] theorem State.modifyOperator_choices (s : State) (f : OperatorUnit → OperatorUnit) :
    (s.modifyOperator f).choices = s.choices := rfl

/-! ### modifyOutput -/

@[simp] theorem State.modifyOutput_pending (s : State) (f : OutputUnit → OutputUnit) :
    (s.modifyOutput f).pending = s.pending := rfl

@[simp] theorem State.modifyOutput_supply (s : State) (f : OutputUnit → OutputUnit) :
    (s.modifyOutput f).supply = s.supply := rfl

@[simp] theorem State.modifyOutput_rstnActive (s : State) (f : OutputUnit → OutputUnit) :
    (s.modifyOutput f).rstnActive = s.rstnActive := rfl

@[simp] theorem State.modifyOutput_resetSource (s : State) (f : OutputUnit → OutputUnit) :
    (s.modifyOutput f).resetSource = s.resetSource := rfl

@[simp] theorem State.modifyOutput_rate (s : State) (f : OutputUnit → OutputUnit) :
    (s.modifyOutput f).rate = s.rate := rfl

@[simp] theorem State.modifyOutput_points (s : State) (f : OutputUnit → OutputUnit) :
    (s.modifyOutput f).points = s.points := rfl

@[simp] theorem State.modifyOutput_groups (s : State) (f : OutputUnit → OutputUnit) :
    (s.modifyOutput f).groups = s.groups := rfl

@[simp] theorem State.modifyOutput_generation (s : State) (f : OutputUnit → OutputUnit) :
    (s.modifyOutput f).generation = s.generation := rfl

@[simp] theorem State.modifyOutput_alarmList (s : State) (f : OutputUnit → OutputUnit) :
    (s.modifyOutput f).alarmList = s.alarmList := rfl

@[simp] theorem State.modifyOutput_journal (s : State) (f : OutputUnit → OutputUnit) :
    (s.modifyOutput f).journal = s.journal := rfl

@[simp] theorem State.modifyOutput_nextSeq (s : State) (f : OutputUnit → OutputUnit) :
    (s.modifyOutput f).nextSeq = s.nextSeq := rfl

@[simp] theorem State.modifyOutput_time (s : State) (f : OutputUnit → OutputUnit) :
    (s.modifyOutput f).time = s.time := rfl

@[simp] theorem State.modifyOutput_operator (s : State) (f : OutputUnit → OutputUnit) :
    (s.modifyOutput f).operator = s.operator := rfl

@[simp] theorem State.modifyOutput_session (s : State) (f : OutputUnit → OutputUnit) :
    (s.modifyOutput f).session = s.session := rfl

@[simp] theorem State.modifyOutput_chainA (s : State) (f : OutputUnit → OutputUnit) :
    (s.modifyOutput f).chainA = s.chainA := rfl

@[simp] theorem State.modifyOutput_chainB (s : State) (f : OutputUnit → OutputUnit) :
    (s.modifyOutput f).chainB = s.chainB := rfl

@[simp] theorem State.modifyOutput_choices (s : State) (f : OutputUnit → OutputUnit) :
    (s.modifyOutput f).choices = s.choices := rfl

/-! ### advanceGeneration -/

@[simp] theorem State.advanceGeneration_pending (s : State) :
    (s.advanceGeneration).pending = s.pending := rfl

@[simp] theorem State.advanceGeneration_supply (s : State) :
    (s.advanceGeneration).supply = s.supply := rfl

@[simp] theorem State.advanceGeneration_rstnActive (s : State) :
    (s.advanceGeneration).rstnActive = s.rstnActive := rfl

@[simp] theorem State.advanceGeneration_resetSource (s : State) :
    (s.advanceGeneration).resetSource = s.resetSource := rfl

@[simp] theorem State.advanceGeneration_rate (s : State) :
    (s.advanceGeneration).rate = s.rate := rfl

@[simp] theorem State.advanceGeneration_points (s : State) :
    (s.advanceGeneration).points = s.points := rfl

@[simp] theorem State.advanceGeneration_groups (s : State) :
    (s.advanceGeneration).groups = s.groups := rfl

@[simp] theorem State.advanceGeneration_alarmList (s : State) :
    (s.advanceGeneration).alarmList = s.alarmList := rfl

@[simp] theorem State.advanceGeneration_journal (s : State) :
    (s.advanceGeneration).journal = s.journal := rfl

@[simp] theorem State.advanceGeneration_nextSeq (s : State) :
    (s.advanceGeneration).nextSeq = s.nextSeq := rfl

@[simp] theorem State.advanceGeneration_time (s : State) :
    (s.advanceGeneration).time = s.time := rfl

@[simp] theorem State.advanceGeneration_operator (s : State) :
    (s.advanceGeneration).operator = s.operator := rfl

@[simp] theorem State.advanceGeneration_output (s : State) :
    (s.advanceGeneration).output = s.output := rfl

@[simp] theorem State.advanceGeneration_session (s : State) :
    (s.advanceGeneration).session = s.session := rfl

@[simp] theorem State.advanceGeneration_chainA (s : State) :
    (s.advanceGeneration).chainA = s.chainA := rfl

@[simp] theorem State.advanceGeneration_chainB (s : State) :
    (s.advanceGeneration).chainB = s.chainB := rfl

@[simp] theorem State.advanceGeneration_choices (s : State) :
    (s.advanceGeneration).choices = s.choices := rfl

/-! ### modifyEntry -/

@[simp] theorem State.modifyEntry_pending (s : State) (p : Point) (f : Entry → Entry) :
    (s.modifyEntry p f).pending = s.pending := rfl

@[simp] theorem State.modifyEntry_supply (s : State) (p : Point) (f : Entry → Entry) :
    (s.modifyEntry p f).supply = s.supply := rfl

@[simp] theorem State.modifyEntry_rstnActive (s : State) (p : Point) (f : Entry → Entry) :
    (s.modifyEntry p f).rstnActive = s.rstnActive := rfl

@[simp] theorem State.modifyEntry_resetSource (s : State) (p : Point) (f : Entry → Entry) :
    (s.modifyEntry p f).resetSource = s.resetSource := rfl

@[simp] theorem State.modifyEntry_rate (s : State) (p : Point) (f : Entry → Entry) :
    (s.modifyEntry p f).rate = s.rate := rfl

@[simp] theorem State.modifyEntry_points (s : State) (p : Point) (f : Entry → Entry) :
    (s.modifyEntry p f).points = s.points := rfl

@[simp] theorem State.modifyEntry_groups (s : State) (p : Point) (f : Entry → Entry) :
    (s.modifyEntry p f).groups = s.groups := rfl

@[simp] theorem State.modifyEntry_generation (s : State) (p : Point) (f : Entry → Entry) :
    (s.modifyEntry p f).generation = s.generation := rfl

@[simp] theorem State.modifyEntry_journal (s : State) (p : Point) (f : Entry → Entry) :
    (s.modifyEntry p f).journal = s.journal := rfl

@[simp] theorem State.modifyEntry_nextSeq (s : State) (p : Point) (f : Entry → Entry) :
    (s.modifyEntry p f).nextSeq = s.nextSeq := rfl

@[simp] theorem State.modifyEntry_time (s : State) (p : Point) (f : Entry → Entry) :
    (s.modifyEntry p f).time = s.time := rfl

@[simp] theorem State.modifyEntry_operator (s : State) (p : Point) (f : Entry → Entry) :
    (s.modifyEntry p f).operator = s.operator := rfl

@[simp] theorem State.modifyEntry_output (s : State) (p : Point) (f : Entry → Entry) :
    (s.modifyEntry p f).output = s.output := rfl

@[simp] theorem State.modifyEntry_session (s : State) (p : Point) (f : Entry → Entry) :
    (s.modifyEntry p f).session = s.session := rfl

@[simp] theorem State.modifyEntry_chainA (s : State) (p : Point) (f : Entry → Entry) :
    (s.modifyEntry p f).chainA = s.chainA := rfl

@[simp] theorem State.modifyEntry_chainB (s : State) (p : Point) (f : Entry → Entry) :
    (s.modifyEntry p f).chainB = s.chainB := rfl

@[simp] theorem State.modifyEntry_choices (s : State) (p : Point) (f : Entry → Entry) :
    (s.modifyEntry p f).choices = s.choices := rfl

/-! ### dropEntry -/

@[simp] theorem State.dropEntry_pending (s : State) (p : Point) :
    (s.dropEntry p).pending = s.pending := rfl

@[simp] theorem State.dropEntry_supply (s : State) (p : Point) :
    (s.dropEntry p).supply = s.supply := rfl

@[simp] theorem State.dropEntry_rstnActive (s : State) (p : Point) :
    (s.dropEntry p).rstnActive = s.rstnActive := rfl

@[simp] theorem State.dropEntry_resetSource (s : State) (p : Point) :
    (s.dropEntry p).resetSource = s.resetSource := rfl

@[simp] theorem State.dropEntry_rate (s : State) (p : Point) :
    (s.dropEntry p).rate = s.rate := rfl

@[simp] theorem State.dropEntry_points (s : State) (p : Point) :
    (s.dropEntry p).points = s.points := rfl

@[simp] theorem State.dropEntry_groups (s : State) (p : Point) :
    (s.dropEntry p).groups = s.groups := rfl

@[simp] theorem State.dropEntry_generation (s : State) (p : Point) :
    (s.dropEntry p).generation = s.generation := rfl

@[simp] theorem State.dropEntry_journal (s : State) (p : Point) :
    (s.dropEntry p).journal = s.journal := rfl

@[simp] theorem State.dropEntry_nextSeq (s : State) (p : Point) :
    (s.dropEntry p).nextSeq = s.nextSeq := rfl

@[simp] theorem State.dropEntry_time (s : State) (p : Point) :
    (s.dropEntry p).time = s.time := rfl

@[simp] theorem State.dropEntry_operator (s : State) (p : Point) :
    (s.dropEntry p).operator = s.operator := rfl

@[simp] theorem State.dropEntry_output (s : State) (p : Point) :
    (s.dropEntry p).output = s.output := rfl

@[simp] theorem State.dropEntry_session (s : State) (p : Point) :
    (s.dropEntry p).session = s.session := rfl

@[simp] theorem State.dropEntry_chainA (s : State) (p : Point) :
    (s.dropEntry p).chainA = s.chainA := rfl

@[simp] theorem State.dropEntry_chainB (s : State) (p : Point) :
    (s.dropEntry p).chainB = s.chainB := rfl

@[simp] theorem State.dropEntry_choices (s : State) (p : Point) :
    (s.dropEntry p).choices = s.choices := rfl

/-! ### openEntry -/

@[simp] theorem State.openEntry_pending (s : State) (e : Entry) :
    (s.openEntry e).pending = s.pending := rfl

@[simp] theorem State.openEntry_supply (s : State) (e : Entry) :
    (s.openEntry e).supply = s.supply := rfl

@[simp] theorem State.openEntry_rstnActive (s : State) (e : Entry) :
    (s.openEntry e).rstnActive = s.rstnActive := rfl

@[simp] theorem State.openEntry_resetSource (s : State) (e : Entry) :
    (s.openEntry e).resetSource = s.resetSource := rfl

@[simp] theorem State.openEntry_rate (s : State) (e : Entry) :
    (s.openEntry e).rate = s.rate := rfl

@[simp] theorem State.openEntry_points (s : State) (e : Entry) :
    (s.openEntry e).points = s.points := rfl

@[simp] theorem State.openEntry_groups (s : State) (e : Entry) :
    (s.openEntry e).groups = s.groups := rfl

@[simp] theorem State.openEntry_generation (s : State) (e : Entry) :
    (s.openEntry e).generation = s.generation := rfl

@[simp] theorem State.openEntry_journal (s : State) (e : Entry) :
    (s.openEntry e).journal = s.journal := rfl

@[simp] theorem State.openEntry_nextSeq (s : State) (e : Entry) :
    (s.openEntry e).nextSeq = s.nextSeq := rfl

@[simp] theorem State.openEntry_time (s : State) (e : Entry) :
    (s.openEntry e).time = s.time := rfl

@[simp] theorem State.openEntry_operator (s : State) (e : Entry) :
    (s.openEntry e).operator = s.operator := rfl

@[simp] theorem State.openEntry_output (s : State) (e : Entry) :
    (s.openEntry e).output = s.output := rfl

@[simp] theorem State.openEntry_session (s : State) (e : Entry) :
    (s.openEntry e).session = s.session := rfl

@[simp] theorem State.openEntry_chainA (s : State) (e : Entry) :
    (s.openEntry e).chainA = s.chainA := rfl

@[simp] theorem State.openEntry_chainB (s : State) (e : Entry) :
    (s.openEntry e).chainB = s.chainB := rfl

@[simp] theorem State.openEntry_choices (s : State) (e : Entry) :
    (s.openEntry e).choices = s.choices := rfl

/-! ### setPhase -/

@[simp] theorem State.setPhase_pending (s : State) (p : Point) (ph : Phase) (timer : Option Nat) :
    (s.setPhase p ph timer).pending = s.pending := rfl

@[simp] theorem State.setPhase_supply (s : State) (p : Point) (ph : Phase) (timer : Option Nat) :
    (s.setPhase p ph timer).supply = s.supply := rfl

@[simp] theorem State.setPhase_rstnActive (s : State) (p : Point) (ph : Phase) (timer : Option Nat) :
    (s.setPhase p ph timer).rstnActive = s.rstnActive := rfl

@[simp] theorem State.setPhase_resetSource (s : State) (p : Point) (ph : Phase) (timer : Option Nat) :
    (s.setPhase p ph timer).resetSource = s.resetSource := rfl

@[simp] theorem State.setPhase_rate (s : State) (p : Point) (ph : Phase) (timer : Option Nat) :
    (s.setPhase p ph timer).rate = s.rate := rfl

@[simp] theorem State.setPhase_groups (s : State) (p : Point) (ph : Phase) (timer : Option Nat) :
    (s.setPhase p ph timer).groups = s.groups := rfl

@[simp] theorem State.setPhase_generation (s : State) (p : Point) (ph : Phase) (timer : Option Nat) :
    (s.setPhase p ph timer).generation = s.generation := rfl

@[simp] theorem State.setPhase_alarmList (s : State) (p : Point) (ph : Phase) (timer : Option Nat) :
    (s.setPhase p ph timer).alarmList = s.alarmList := rfl

@[simp] theorem State.setPhase_journal (s : State) (p : Point) (ph : Phase) (timer : Option Nat) :
    (s.setPhase p ph timer).journal = s.journal := rfl

@[simp] theorem State.setPhase_nextSeq (s : State) (p : Point) (ph : Phase) (timer : Option Nat) :
    (s.setPhase p ph timer).nextSeq = s.nextSeq := rfl

@[simp] theorem State.setPhase_time (s : State) (p : Point) (ph : Phase) (timer : Option Nat) :
    (s.setPhase p ph timer).time = s.time := rfl

@[simp] theorem State.setPhase_operator (s : State) (p : Point) (ph : Phase) (timer : Option Nat) :
    (s.setPhase p ph timer).operator = s.operator := rfl

@[simp] theorem State.setPhase_output (s : State) (p : Point) (ph : Phase) (timer : Option Nat) :
    (s.setPhase p ph timer).output = s.output := rfl

@[simp] theorem State.setPhase_session (s : State) (p : Point) (ph : Phase) (timer : Option Nat) :
    (s.setPhase p ph timer).session = s.session := rfl

@[simp] theorem State.setPhase_chainA (s : State) (p : Point) (ph : Phase) (timer : Option Nat) :
    (s.setPhase p ph timer).chainA = s.chainA := rfl

@[simp] theorem State.setPhase_chainB (s : State) (p : Point) (ph : Phase) (timer : Option Nat) :
    (s.setPhase p ph timer).chainB = s.chainB := rfl

@[simp] theorem State.setPhase_choices (s : State) (p : Point) (ph : Phase) (timer : Option Nat) :
    (s.setPhase p ph timer).choices = s.choices := rfl

/-! ### copy -/

@[simp] theorem State.copy_pending (s : State) (p : Point) (ph : Phase) (mark : Bool) :
    (s.copy p ph mark).pending = s.pending := rfl

@[simp] theorem State.copy_supply (s : State) (p : Point) (ph : Phase) (mark : Bool) :
    (s.copy p ph mark).supply = s.supply := rfl

@[simp] theorem State.copy_rstnActive (s : State) (p : Point) (ph : Phase) (mark : Bool) :
    (s.copy p ph mark).rstnActive = s.rstnActive := rfl

@[simp] theorem State.copy_resetSource (s : State) (p : Point) (ph : Phase) (mark : Bool) :
    (s.copy p ph mark).resetSource = s.resetSource := rfl

@[simp] theorem State.copy_rate (s : State) (p : Point) (ph : Phase) (mark : Bool) :
    (s.copy p ph mark).rate = s.rate := rfl

@[simp] theorem State.copy_groups (s : State) (p : Point) (ph : Phase) (mark : Bool) :
    (s.copy p ph mark).groups = s.groups := rfl

@[simp] theorem State.copy_generation (s : State) (p : Point) (ph : Phase) (mark : Bool) :
    (s.copy p ph mark).generation = s.generation := rfl

@[simp] theorem State.copy_alarmList (s : State) (p : Point) (ph : Phase) (mark : Bool) :
    (s.copy p ph mark).alarmList = s.alarmList := rfl

@[simp] theorem State.copy_journal (s : State) (p : Point) (ph : Phase) (mark : Bool) :
    (s.copy p ph mark).journal = s.journal := rfl

@[simp] theorem State.copy_nextSeq (s : State) (p : Point) (ph : Phase) (mark : Bool) :
    (s.copy p ph mark).nextSeq = s.nextSeq := rfl

@[simp] theorem State.copy_time (s : State) (p : Point) (ph : Phase) (mark : Bool) :
    (s.copy p ph mark).time = s.time := rfl

@[simp] theorem State.copy_operator (s : State) (p : Point) (ph : Phase) (mark : Bool) :
    (s.copy p ph mark).operator = s.operator := rfl

@[simp] theorem State.copy_output (s : State) (p : Point) (ph : Phase) (mark : Bool) :
    (s.copy p ph mark).output = s.output := rfl

@[simp] theorem State.copy_session (s : State) (p : Point) (ph : Phase) (mark : Bool) :
    (s.copy p ph mark).session = s.session := rfl

@[simp] theorem State.copy_chainA (s : State) (p : Point) (ph : Phase) (mark : Bool) :
    (s.copy p ph mark).chainA = s.chainA := rfl

@[simp] theorem State.copy_chainB (s : State) (p : Point) (ph : Phase) (mark : Bool) :
    (s.copy p ph mark).chainB = s.chainB := rfl

@[simp] theorem State.copy_choices (s : State) (p : Point) (ph : Phase) (mark : Bool) :
    (s.copy p ph mark).choices = s.choices := rfl

/-! ### setLatches -/

@[simp] theorem State.setLatches_pending (s : State) (p : Point) (ph : Phase) :
    (s.setLatches p ph).pending = s.pending := rfl

@[simp] theorem State.setLatches_supply (s : State) (p : Point) (ph : Phase) :
    (s.setLatches p ph).supply = s.supply := rfl

@[simp] theorem State.setLatches_rstnActive (s : State) (p : Point) (ph : Phase) :
    (s.setLatches p ph).rstnActive = s.rstnActive := rfl

@[simp] theorem State.setLatches_resetSource (s : State) (p : Point) (ph : Phase) :
    (s.setLatches p ph).resetSource = s.resetSource := rfl

@[simp] theorem State.setLatches_rate (s : State) (p : Point) (ph : Phase) :
    (s.setLatches p ph).rate = s.rate := rfl

@[simp] theorem State.setLatches_points (s : State) (p : Point) (ph : Phase) :
    (s.setLatches p ph).points = s.points := rfl

@[simp] theorem State.setLatches_groups (s : State) (p : Point) (ph : Phase) :
    (s.setLatches p ph).groups = s.groups := rfl

@[simp] theorem State.setLatches_generation (s : State) (p : Point) (ph : Phase) :
    (s.setLatches p ph).generation = s.generation := rfl

@[simp] theorem State.setLatches_alarmList (s : State) (p : Point) (ph : Phase) :
    (s.setLatches p ph).alarmList = s.alarmList := rfl

@[simp] theorem State.setLatches_journal (s : State) (p : Point) (ph : Phase) :
    (s.setLatches p ph).journal = s.journal := rfl

@[simp] theorem State.setLatches_nextSeq (s : State) (p : Point) (ph : Phase) :
    (s.setLatches p ph).nextSeq = s.nextSeq := rfl

@[simp] theorem State.setLatches_time (s : State) (p : Point) (ph : Phase) :
    (s.setLatches p ph).time = s.time := rfl

@[simp] theorem State.setLatches_operator (s : State) (p : Point) (ph : Phase) :
    (s.setLatches p ph).operator = s.operator := rfl

@[simp] theorem State.setLatches_session (s : State) (p : Point) (ph : Phase) :
    (s.setLatches p ph).session = s.session := rfl

@[simp] theorem State.setLatches_chainA (s : State) (p : Point) (ph : Phase) :
    (s.setLatches p ph).chainA = s.chainA := rfl

@[simp] theorem State.setLatches_chainB (s : State) (p : Point) (ph : Phase) :
    (s.setLatches p ph).chainB = s.chainB := rfl

@[simp] theorem State.setLatches_choices (s : State) (p : Point) (ph : Phase) :
    (s.setLatches p ph).choices = s.choices := rfl

/-! ### reevaluate -/

@[simp] theorem State.reevaluate_pending (s : State) :
    (s.reevaluate).pending = s.pending := rfl

@[simp] theorem State.reevaluate_supply (s : State) :
    (s.reevaluate).supply = s.supply := rfl

@[simp] theorem State.reevaluate_rstnActive (s : State) :
    (s.reevaluate).rstnActive = s.rstnActive := rfl

@[simp] theorem State.reevaluate_resetSource (s : State) :
    (s.reevaluate).resetSource = s.resetSource := rfl

@[simp] theorem State.reevaluate_rate (s : State) :
    (s.reevaluate).rate = s.rate := rfl

@[simp] theorem State.reevaluate_points (s : State) :
    (s.reevaluate).points = s.points := rfl

@[simp] theorem State.reevaluate_groups (s : State) :
    (s.reevaluate).groups = s.groups := rfl

@[simp] theorem State.reevaluate_generation (s : State) :
    (s.reevaluate).generation = s.generation := rfl

@[simp] theorem State.reevaluate_alarmList (s : State) :
    (s.reevaluate).alarmList = s.alarmList := rfl

@[simp] theorem State.reevaluate_journal (s : State) :
    (s.reevaluate).journal = s.journal := rfl

@[simp] theorem State.reevaluate_nextSeq (s : State) :
    (s.reevaluate).nextSeq = s.nextSeq := rfl

@[simp] theorem State.reevaluate_time (s : State) :
    (s.reevaluate).time = s.time := rfl

@[simp] theorem State.reevaluate_operator (s : State) :
    (s.reevaluate).operator = s.operator := rfl

@[simp] theorem State.reevaluate_session (s : State) :
    (s.reevaluate).session = s.session := rfl

@[simp] theorem State.reevaluate_chainA (s : State) :
    (s.reevaluate).chainA = s.chainA := rfl

@[simp] theorem State.reevaluate_chainB (s : State) :
    (s.reevaluate).chainB = s.chainB := rfl

@[simp] theorem State.reevaluate_choices (s : State) :
    (s.reevaluate).choices = s.choices := rfl

/-! ### tell -/

@[simp] theorem State.tell_pending (s : State) (p : Point) (ph : Phase) (mark : Bool) :
    (s.tell p ph mark).pending = s.pending := rfl

@[simp] theorem State.tell_supply (s : State) (p : Point) (ph : Phase) (mark : Bool) :
    (s.tell p ph mark).supply = s.supply := rfl

@[simp] theorem State.tell_rstnActive (s : State) (p : Point) (ph : Phase) (mark : Bool) :
    (s.tell p ph mark).rstnActive = s.rstnActive := rfl

@[simp] theorem State.tell_resetSource (s : State) (p : Point) (ph : Phase) (mark : Bool) :
    (s.tell p ph mark).resetSource = s.resetSource := rfl

@[simp] theorem State.tell_rate (s : State) (p : Point) (ph : Phase) (mark : Bool) :
    (s.tell p ph mark).rate = s.rate := rfl

@[simp] theorem State.tell_groups (s : State) (p : Point) (ph : Phase) (mark : Bool) :
    (s.tell p ph mark).groups = s.groups := rfl

@[simp] theorem State.tell_generation (s : State) (p : Point) (ph : Phase) (mark : Bool) :
    (s.tell p ph mark).generation = s.generation := rfl

@[simp] theorem State.tell_alarmList (s : State) (p : Point) (ph : Phase) (mark : Bool) :
    (s.tell p ph mark).alarmList = s.alarmList := rfl

@[simp] theorem State.tell_journal (s : State) (p : Point) (ph : Phase) (mark : Bool) :
    (s.tell p ph mark).journal = s.journal := rfl

@[simp] theorem State.tell_nextSeq (s : State) (p : Point) (ph : Phase) (mark : Bool) :
    (s.tell p ph mark).nextSeq = s.nextSeq := rfl

@[simp] theorem State.tell_time (s : State) (p : Point) (ph : Phase) (mark : Bool) :
    (s.tell p ph mark).time = s.time := rfl

@[simp] theorem State.tell_operator (s : State) (p : Point) (ph : Phase) (mark : Bool) :
    (s.tell p ph mark).operator = s.operator := rfl

@[simp] theorem State.tell_session (s : State) (p : Point) (ph : Phase) (mark : Bool) :
    (s.tell p ph mark).session = s.session := rfl

@[simp] theorem State.tell_chainA (s : State) (p : Point) (ph : Phase) (mark : Bool) :
    (s.tell p ph mark).chainA = s.chainA := rfl

@[simp] theorem State.tell_chainB (s : State) (p : Point) (ph : Phase) (mark : Bool) :
    (s.tell p ph mark).chainB = s.chainB := rfl

@[simp] theorem State.tell_choices (s : State) (p : Point) (ph : Phase) (mark : Bool) :
    (s.tell p ph mark).choices = s.choices := rfl

/-! ### renewLease -/

@[simp] theorem State.renewLease_pending (s : State) (l : Link) :
    (s.renewLease l).pending = s.pending := by unfold State.renewLease; split <;> rfl

@[simp] theorem State.renewLease_supply (s : State) (l : Link) :
    (s.renewLease l).supply = s.supply := by unfold State.renewLease; split <;> rfl

@[simp] theorem State.renewLease_rstnActive (s : State) (l : Link) :
    (s.renewLease l).rstnActive = s.rstnActive := by unfold State.renewLease; split <;> rfl

@[simp] theorem State.renewLease_resetSource (s : State) (l : Link) :
    (s.renewLease l).resetSource = s.resetSource := by unfold State.renewLease; split <;> rfl

@[simp] theorem State.renewLease_rate (s : State) (l : Link) :
    (s.renewLease l).rate = s.rate := by unfold State.renewLease; split <;> rfl

@[simp] theorem State.renewLease_points (s : State) (l : Link) :
    (s.renewLease l).points = s.points := by unfold State.renewLease; split <;> rfl

@[simp] theorem State.renewLease_groups (s : State) (l : Link) :
    (s.renewLease l).groups = s.groups := by unfold State.renewLease; split <;> rfl

@[simp] theorem State.renewLease_generation (s : State) (l : Link) :
    (s.renewLease l).generation = s.generation := by unfold State.renewLease; split <;> rfl

@[simp] theorem State.renewLease_alarmList (s : State) (l : Link) :
    (s.renewLease l).alarmList = s.alarmList := by unfold State.renewLease; split <;> rfl

@[simp] theorem State.renewLease_journal (s : State) (l : Link) :
    (s.renewLease l).journal = s.journal := by unfold State.renewLease; split <;> rfl

@[simp] theorem State.renewLease_nextSeq (s : State) (l : Link) :
    (s.renewLease l).nextSeq = s.nextSeq := by unfold State.renewLease; split <;> rfl

@[simp] theorem State.renewLease_time (s : State) (l : Link) :
    (s.renewLease l).time = s.time := by unfold State.renewLease; split <;> rfl

@[simp] theorem State.renewLease_operator (s : State) (l : Link) :
    (s.renewLease l).operator = s.operator := by unfold State.renewLease; split <;> rfl

@[simp] theorem State.renewLease_output (s : State) (l : Link) :
    (s.renewLease l).output = s.output := by unfold State.renewLease; split <;> rfl

@[simp] theorem State.renewLease_chainA (s : State) (l : Link) :
    (s.renewLease l).chainA = s.chainA := by unfold State.renewLease; split <;> rfl

@[simp] theorem State.renewLease_chainB (s : State) (l : Link) :
    (s.renewLease l).chainB = s.chainB := by unfold State.renewLease; split <;> rfl

@[simp] theorem State.renewLease_choices (s : State) (l : Link) :
    (s.renewLease l).choices = s.choices := by unfold State.renewLease; split <;> rfl

end Sys2Proof.Machine
end

