-- ==== Sys2Proof/Laws/Journal.lean ====
section
/-! SUPPORT. What the shared operations on the journal, the deliveries and the transmitter leave unchanged, and what they
do. -/

namespace Sys2Proof.Machine

/-! ### dropOldest -/

@[simp] theorem State.dropOldest_pending (s : State) :
    (s.dropOldest).pending = s.pending := by unfold State.dropOldest; split <;> rfl

@[simp] theorem State.dropOldest_supply (s : State) :
    (s.dropOldest).supply = s.supply := by unfold State.dropOldest; split <;> rfl

@[simp] theorem State.dropOldest_rstnActive (s : State) :
    (s.dropOldest).rstnActive = s.rstnActive := by unfold State.dropOldest; split <;> rfl

@[simp] theorem State.dropOldest_resetSource (s : State) :
    (s.dropOldest).resetSource = s.resetSource := by unfold State.dropOldest; split <;> rfl

@[simp] theorem State.dropOldest_rate (s : State) :
    (s.dropOldest).rate = s.rate := by unfold State.dropOldest; split <;> rfl

@[simp] theorem State.dropOldest_points (s : State) :
    (s.dropOldest).points = s.points := by unfold State.dropOldest; split <;> rfl

@[simp] theorem State.dropOldest_groups (s : State) :
    (s.dropOldest).groups = s.groups := by unfold State.dropOldest; split <;> rfl

@[simp] theorem State.dropOldest_generation (s : State) :
    (s.dropOldest).generation = s.generation := by unfold State.dropOldest; split <;> rfl

@[simp] theorem State.dropOldest_alarmList (s : State) :
    (s.dropOldest).alarmList = s.alarmList := by unfold State.dropOldest; split <;> rfl

@[simp] theorem State.dropOldest_nextSeq (s : State) :
    (s.dropOldest).nextSeq = s.nextSeq := by unfold State.dropOldest; split <;> rfl

@[simp] theorem State.dropOldest_time (s : State) :
    (s.dropOldest).time = s.time := by unfold State.dropOldest; split <;> rfl

@[simp] theorem State.dropOldest_operator (s : State) :
    (s.dropOldest).operator = s.operator := by unfold State.dropOldest; split <;> rfl

@[simp] theorem State.dropOldest_output (s : State) :
    (s.dropOldest).output = s.output := by unfold State.dropOldest; split <;> rfl

@[simp] theorem State.dropOldest_session (s : State) :
    (s.dropOldest).session = s.session := by unfold State.dropOldest; split <;> rfl

@[simp] theorem State.dropOldest_choices (s : State) :
    (s.dropOldest).choices = s.choices := by unfold State.dropOldest; split <;> rfl

/-! ### makeRoom -/

@[simp] theorem State.makeRoom_pending (s : State) :
    (s.makeRoom).pending = s.pending := by unfold State.makeRoom; split <;> simp

@[simp] theorem State.makeRoom_supply (s : State) :
    (s.makeRoom).supply = s.supply := by unfold State.makeRoom; split <;> simp

@[simp] theorem State.makeRoom_rstnActive (s : State) :
    (s.makeRoom).rstnActive = s.rstnActive := by unfold State.makeRoom; split <;> simp

@[simp] theorem State.makeRoom_resetSource (s : State) :
    (s.makeRoom).resetSource = s.resetSource := by unfold State.makeRoom; split <;> simp

@[simp] theorem State.makeRoom_rate (s : State) :
    (s.makeRoom).rate = s.rate := by unfold State.makeRoom; split <;> simp

@[simp] theorem State.makeRoom_points (s : State) :
    (s.makeRoom).points = s.points := by unfold State.makeRoom; split <;> simp

@[simp] theorem State.makeRoom_groups (s : State) :
    (s.makeRoom).groups = s.groups := by unfold State.makeRoom; split <;> simp

@[simp] theorem State.makeRoom_generation (s : State) :
    (s.makeRoom).generation = s.generation := by unfold State.makeRoom; split <;> simp

@[simp] theorem State.makeRoom_alarmList (s : State) :
    (s.makeRoom).alarmList = s.alarmList := by unfold State.makeRoom; split <;> simp

@[simp] theorem State.makeRoom_nextSeq (s : State) :
    (s.makeRoom).nextSeq = s.nextSeq := by unfold State.makeRoom; split <;> simp

@[simp] theorem State.makeRoom_time (s : State) :
    (s.makeRoom).time = s.time := by unfold State.makeRoom; split <;> simp

@[simp] theorem State.makeRoom_operator (s : State) :
    (s.makeRoom).operator = s.operator := by unfold State.makeRoom; split <;> simp

@[simp] theorem State.makeRoom_output (s : State) :
    (s.makeRoom).output = s.output := by unfold State.makeRoom; split <;> simp

@[simp] theorem State.makeRoom_session (s : State) :
    (s.makeRoom).session = s.session := by unfold State.makeRoom; split <;> simp

@[simp] theorem State.makeRoom_choices (s : State) :
    (s.makeRoom).choices = s.choices := by unfold State.makeRoom; split <;> simp

/-! ### append -/

@[simp] theorem State.append_pending (s : State) (k : RecordKind) (src : Source) (p : Option Point) (g : Option Group) :
    (s.append k src p g).pending = s.pending := by simp [State.append]

@[simp] theorem State.append_supply (s : State) (k : RecordKind) (src : Source) (p : Option Point) (g : Option Group) :
    (s.append k src p g).supply = s.supply := by simp [State.append]

@[simp] theorem State.append_rstnActive (s : State) (k : RecordKind) (src : Source) (p : Option Point) (g : Option Group) :
    (s.append k src p g).rstnActive = s.rstnActive := by simp [State.append]

@[simp] theorem State.append_resetSource (s : State) (k : RecordKind) (src : Source) (p : Option Point) (g : Option Group) :
    (s.append k src p g).resetSource = s.resetSource := by simp [State.append]

@[simp] theorem State.append_rate (s : State) (k : RecordKind) (src : Source) (p : Option Point) (g : Option Group) :
    (s.append k src p g).rate = s.rate := by simp [State.append]

@[simp] theorem State.append_points (s : State) (k : RecordKind) (src : Source) (p : Option Point) (g : Option Group) :
    (s.append k src p g).points = s.points := by simp [State.append]

@[simp] theorem State.append_groups (s : State) (k : RecordKind) (src : Source) (p : Option Point) (g : Option Group) :
    (s.append k src p g).groups = s.groups := by simp [State.append]

@[simp] theorem State.append_generation (s : State) (k : RecordKind) (src : Source) (p : Option Point) (g : Option Group) :
    (s.append k src p g).generation = s.generation := by simp [State.append]

@[simp] theorem State.append_alarmList (s : State) (k : RecordKind) (src : Source) (p : Option Point) (g : Option Group) :
    (s.append k src p g).alarmList = s.alarmList := by simp [State.append]

@[simp] theorem State.append_time (s : State) (k : RecordKind) (src : Source) (p : Option Point) (g : Option Group) :
    (s.append k src p g).time = s.time := by simp [State.append]

@[simp] theorem State.append_operator (s : State) (k : RecordKind) (src : Source) (p : Option Point) (g : Option Group) :
    (s.append k src p g).operator = s.operator := by simp [State.append]

@[simp] theorem State.append_output (s : State) (k : RecordKind) (src : Source) (p : Option Point) (g : Option Group) :
    (s.append k src p g).output = s.output := by simp [State.append]

@[simp] theorem State.append_session (s : State) (k : RecordKind) (src : Source) (p : Option Point) (g : Option Group) :
    (s.append k src p g).session = s.session := by simp [State.append]

@[simp] theorem State.append_choices (s : State) (k : RecordKind) (src : Source) (p : Option Point) (g : Option Group) :
    (s.append k src p g).choices = s.choices := by simp [State.append]

/-- Appending numbers the record with the next sequence number and advances it (08 R142). -/
@[simp] theorem State.append_nextSeq (s : State) (k : RecordKind) (src : Source) (p : Option Point) (g : Option Group) :
    (s.append k src p g).nextSeq = seqNext s.nextSeq := rfl

/-- Appending adds one record at the new end, after dropping the oldest of a full journal (08 R145). -/
theorem State.append_journal (s : State) (k : RecordKind) (src : Source) (p : Option Point) (g : Option Group) :
    (s.append k src p g).journal =
      (if s.journal.length < Config.journalCapacity then s.journal else s.journal.tail) ++
        [s.newRecord k src p g] := by
  unfold State.append State.makeRoom
  by_cases h : s.journal.length < Config.journalCapacity
  · simp [h]
  · cases hj : s.journal with
    | nil => simp [hj, Config.journalCapacity] at h
    | cons r rest =>
      have h' : ¬ rest.length + 1 < Config.journalCapacity := by simpa [hj] using h
      simp [State.dropOldest, hj, h']

/-- Two states with the same journal, number and time append the same record. -/
theorem State.append_journal_congr {s t : State} (k : RecordKind) (src : Source) (p : Option Point) (g : Option Group)
    (hj : t.journal = s.journal) (hn : t.nextSeq = s.nextSeq) (ht : t.time = s.time) :
    (t.append k src p g).journal = (s.append k src p g).journal := by
  simp only [State.append_journal, State.newRecord, hj, hn, ht]

/-! ### offer -/

@[simp] theorem State.offer_pending (s : State) :
    (s.offer).pending = s.pending := rfl

@[simp] theorem State.offer_supply (s : State) :
    (s.offer).supply = s.supply := rfl

@[simp] theorem State.offer_rstnActive (s : State) :
    (s.offer).rstnActive = s.rstnActive := rfl

@[simp] theorem State.offer_resetSource (s : State) :
    (s.offer).resetSource = s.resetSource := rfl

@[simp] theorem State.offer_rate (s : State) :
    (s.offer).rate = s.rate := rfl

@[simp] theorem State.offer_points (s : State) :
    (s.offer).points = s.points := rfl

@[simp] theorem State.offer_groups (s : State) :
    (s.offer).groups = s.groups := rfl

@[simp] theorem State.offer_generation (s : State) :
    (s.offer).generation = s.generation := rfl

@[simp] theorem State.offer_alarmList (s : State) :
    (s.offer).alarmList = s.alarmList := rfl

@[simp] theorem State.offer_journal (s : State) :
    (s.offer).journal = s.journal := rfl

@[simp] theorem State.offer_nextSeq (s : State) :
    (s.offer).nextSeq = s.nextSeq := rfl

@[simp] theorem State.offer_time (s : State) :
    (s.offer).time = s.time := rfl

@[simp] theorem State.offer_operator (s : State) :
    (s.offer).operator = s.operator := rfl

@[simp] theorem State.offer_output (s : State) :
    (s.offer).output = s.output := rfl

@[simp] theorem State.offer_session (s : State) :
    (s.offer).session = s.session := rfl

@[simp] theorem State.offer_choices (s : State) :
    (s.offer).choices = s.choices := rfl

/-- A transmitter touches nothing but the chains (10 R176). -/
theorem State.startTx_frame (s : State) (l : Link) :
    s.startTx l = { s with chainA := (s.startTx l).chainA, chainB := (s.startTx l).chainB } := by
  unfold State.startTx
  dsimp only
  repeat' split
  all_goals cases l <;> rfl

/-! ### startTx -/

@[simp] theorem State.startTx_pending (s : State) (l : Link) :
    (s.startTx l).pending = s.pending := by rw [State.startTx_frame]

@[simp] theorem State.startTx_supply (s : State) (l : Link) :
    (s.startTx l).supply = s.supply := by rw [State.startTx_frame]

@[simp] theorem State.startTx_rstnActive (s : State) (l : Link) :
    (s.startTx l).rstnActive = s.rstnActive := by rw [State.startTx_frame]

@[simp] theorem State.startTx_resetSource (s : State) (l : Link) :
    (s.startTx l).resetSource = s.resetSource := by rw [State.startTx_frame]

@[simp] theorem State.startTx_rate (s : State) (l : Link) :
    (s.startTx l).rate = s.rate := by rw [State.startTx_frame]

@[simp] theorem State.startTx_points (s : State) (l : Link) :
    (s.startTx l).points = s.points := by rw [State.startTx_frame]

@[simp] theorem State.startTx_groups (s : State) (l : Link) :
    (s.startTx l).groups = s.groups := by rw [State.startTx_frame]

@[simp] theorem State.startTx_generation (s : State) (l : Link) :
    (s.startTx l).generation = s.generation := by rw [State.startTx_frame]

@[simp] theorem State.startTx_alarmList (s : State) (l : Link) :
    (s.startTx l).alarmList = s.alarmList := by rw [State.startTx_frame]

@[simp] theorem State.startTx_journal (s : State) (l : Link) :
    (s.startTx l).journal = s.journal := by rw [State.startTx_frame]

@[simp] theorem State.startTx_nextSeq (s : State) (l : Link) :
    (s.startTx l).nextSeq = s.nextSeq := by rw [State.startTx_frame]

@[simp] theorem State.startTx_time (s : State) (l : Link) :
    (s.startTx l).time = s.time := by rw [State.startTx_frame]

@[simp] theorem State.startTx_operator (s : State) (l : Link) :
    (s.startTx l).operator = s.operator := by rw [State.startTx_frame]

@[simp] theorem State.startTx_output (s : State) (l : Link) :
    (s.startTx l).output = s.output := by rw [State.startTx_frame]

@[simp] theorem State.startTx_session (s : State) (l : Link) :
    (s.startTx l).session = s.session := by rw [State.startTx_frame]

@[simp] theorem State.startTx_choices (s : State) (l : Link) :
    (s.startTx l).choices = s.choices := by rw [State.startTx_frame]

/-! ### finish -/

@[simp] theorem State.finish_pending (s : State) :
    (s.finish).pending = s.pending := by simp [State.finish]

@[simp] theorem State.finish_supply (s : State) :
    (s.finish).supply = s.supply := by simp [State.finish]

@[simp] theorem State.finish_rstnActive (s : State) :
    (s.finish).rstnActive = s.rstnActive := by simp [State.finish]

@[simp] theorem State.finish_resetSource (s : State) :
    (s.finish).resetSource = s.resetSource := by simp [State.finish]

@[simp] theorem State.finish_rate (s : State) :
    (s.finish).rate = s.rate := by simp [State.finish]

@[simp] theorem State.finish_points (s : State) :
    (s.finish).points = s.points := by simp [State.finish]

@[simp] theorem State.finish_groups (s : State) :
    (s.finish).groups = s.groups := by simp [State.finish]

@[simp] theorem State.finish_generation (s : State) :
    (s.finish).generation = s.generation := by simp [State.finish]

@[simp] theorem State.finish_alarmList (s : State) :
    (s.finish).alarmList = s.alarmList := by simp [State.finish]

@[simp] theorem State.finish_journal (s : State) :
    (s.finish).journal = s.journal := by simp [State.finish]

@[simp] theorem State.finish_nextSeq (s : State) :
    (s.finish).nextSeq = s.nextSeq := by simp [State.finish]

@[simp] theorem State.finish_time (s : State) :
    (s.finish).time = s.time := by simp [State.finish]

@[simp] theorem State.finish_operator (s : State) :
    (s.finish).operator = s.operator := by simp [State.finish]

@[simp] theorem State.finish_output (s : State) :
    (s.finish).output = s.output := by simp [State.finish]

@[simp] theorem State.finish_session (s : State) :
    (s.finish).session = s.session := by simp [State.finish]

@[simp] theorem State.finish_choices (s : State) :
    (s.finish).choices = s.choices := by simp [State.finish]

end Sys2Proof.Machine
end

