-- ==== Sys2Proof/Laws/Reads.lean ====
section
/-! SUPPORT. A point, a group and a chain read through the updates that do not touch them. -/

namespace Sys2Proof.Machine

/-- Chains are equal when their fields are. -/
theorem State.chain_congr {s t : State} (ha : t.chainA = s.chainA) (hb : t.chainB = s.chainB) (l : Link) :
    t.chain l = s.chain l := by
  cases l <;> assumption

@[simp] theorem State.modifyPoint_group (s : State) (p : Point) (f : PointState → PointState) (y : Group) :
    (s.modifyPoint p f).group y = s.group y := State.group_congr (by simp) y

@[simp] theorem State.modifyPoint_chain (s : State) (p : Point) (f : PointState → PointState) (m : Link) :
    (s.modifyPoint p f).chain m = s.chain m := State.chain_congr (by simp) (by simp) m

@[simp] theorem State.mapPoints_group (s : State) (f : PointState → PointState) (y : Group) :
    (s.mapPoints f).group y = s.group y := State.group_congr (by simp) y

@[simp] theorem State.mapPoints_chain (s : State) (f : PointState → PointState) (m : Link) :
    (s.mapPoints f).chain m = s.chain m := State.chain_congr (by simp) (by simp) m

@[simp] theorem State.modifyGroup_point (s : State) (g : Group) (f : GroupState → GroupState) (y : Point) :
    (s.modifyGroup g f).point y = s.point y := State.point_congr (by simp) y

@[simp] theorem State.modifyGroup_chain (s : State) (g : Group) (f : GroupState → GroupState) (m : Link) :
    (s.modifyGroup g f).chain m = s.chain m := State.chain_congr (by simp) (by simp) m

@[simp] theorem State.setChain_point (s : State) (l : Link) (c : Chain) (y : Point) :
    (s.setChain l c).point y = s.point y := State.point_congr (by simp) y

@[simp] theorem State.setChain_group (s : State) (l : Link) (c : Chain) (y : Group) :
    (s.setChain l c).group y = s.group y := State.group_congr (by simp) y

@[simp] theorem State.modifyDelivery_point (s : State) (l : Link) (f : Delivery → Delivery) (y : Point) :
    (s.modifyDelivery l f).point y = s.point y := State.point_congr (by simp) y

@[simp] theorem State.modifyDelivery_group (s : State) (l : Link) (f : Delivery → Delivery) (y : Group) :
    (s.modifyDelivery l f).group y = s.group y := State.group_congr (by simp) y

@[simp] theorem State.replacePlace_point (s : State) (l : Link) (f : Place → Option Place) (y : Point) :
    (s.replacePlace l f).point y = s.point y := State.point_congr (by simp) y

@[simp] theorem State.replacePlace_group (s : State) (l : Link) (f : Place → Option Place) (y : Group) :
    (s.replacePlace l f).group y = s.group y := State.group_congr (by simp) y

@[simp] theorem State.setReceiver_point (s : State) (l : Link) (x : Receiver) (y : Point) :
    (s.setReceiver l x).point y = s.point y := State.point_congr (by simp) y

@[simp] theorem State.setReceiver_group (s : State) (l : Link) (x : Receiver) (y : Group) :
    (s.setReceiver l x).group y = s.group y := State.group_congr (by simp) y

@[simp] theorem State.freeLine_point (s : State) (l : Link) (y : Point) :
    (s.freeLine l).point y = s.point y := State.point_congr (by simp) y

@[simp] theorem State.freeLine_group (s : State) (l : Link) (y : Group) :
    (s.freeLine l).group y = s.group y := State.group_congr (by simp) y

@[simp] theorem State.modifySession_point (s : State) (f : SessionUnit → SessionUnit) (y : Point) :
    (s.modifySession f).point y = s.point y := State.point_congr (by simp) y

@[simp] theorem State.modifySession_group (s : State) (f : SessionUnit → SessionUnit) (y : Group) :
    (s.modifySession f).group y = s.group y := State.group_congr (by simp) y

@[simp] theorem State.modifySession_chain (s : State) (f : SessionUnit → SessionUnit) (m : Link) :
    (s.modifySession f).chain m = s.chain m := State.chain_congr (by simp) (by simp) m

@[simp] theorem State.modifyOperator_point (s : State) (f : OperatorUnit → OperatorUnit) (y : Point) :
    (s.modifyOperator f).point y = s.point y := State.point_congr (by simp) y

@[simp] theorem State.modifyOperator_group (s : State) (f : OperatorUnit → OperatorUnit) (y : Group) :
    (s.modifyOperator f).group y = s.group y := State.group_congr (by simp) y

@[simp] theorem State.modifyOperator_chain (s : State) (f : OperatorUnit → OperatorUnit) (m : Link) :
    (s.modifyOperator f).chain m = s.chain m := State.chain_congr (by simp) (by simp) m

@[simp] theorem State.modifyOutput_point (s : State) (f : OutputUnit → OutputUnit) (y : Point) :
    (s.modifyOutput f).point y = s.point y := State.point_congr (by simp) y

@[simp] theorem State.modifyOutput_group (s : State) (f : OutputUnit → OutputUnit) (y : Group) :
    (s.modifyOutput f).group y = s.group y := State.group_congr (by simp) y

@[simp] theorem State.modifyOutput_chain (s : State) (f : OutputUnit → OutputUnit) (m : Link) :
    (s.modifyOutput f).chain m = s.chain m := State.chain_congr (by simp) (by simp) m

@[simp] theorem State.advanceGeneration_point (s : State) (y : Point) :
    (s.advanceGeneration).point y = s.point y := State.point_congr (by simp) y

@[simp] theorem State.advanceGeneration_group (s : State) (y : Group) :
    (s.advanceGeneration).group y = s.group y := State.group_congr (by simp) y

@[simp] theorem State.advanceGeneration_chain (s : State) (m : Link) :
    (s.advanceGeneration).chain m = s.chain m := State.chain_congr (by simp) (by simp) m

@[simp] theorem State.modifyEntry_point (s : State) (p : Point) (f : Entry → Entry) (y : Point) :
    (s.modifyEntry p f).point y = s.point y := State.point_congr (by simp) y

@[simp] theorem State.modifyEntry_group (s : State) (p : Point) (f : Entry → Entry) (y : Group) :
    (s.modifyEntry p f).group y = s.group y := State.group_congr (by simp) y

@[simp] theorem State.modifyEntry_chain (s : State) (p : Point) (f : Entry → Entry) (m : Link) :
    (s.modifyEntry p f).chain m = s.chain m := State.chain_congr (by simp) (by simp) m

@[simp] theorem State.dropEntry_point (s : State) (p : Point) (y : Point) :
    (s.dropEntry p).point y = s.point y := State.point_congr (by simp) y

@[simp] theorem State.dropEntry_group (s : State) (p : Point) (y : Group) :
    (s.dropEntry p).group y = s.group y := State.group_congr (by simp) y

@[simp] theorem State.dropEntry_chain (s : State) (p : Point) (m : Link) :
    (s.dropEntry p).chain m = s.chain m := State.chain_congr (by simp) (by simp) m

@[simp] theorem State.openEntry_point (s : State) (e : Entry) (y : Point) :
    (s.openEntry e).point y = s.point y := State.point_congr (by simp) y

@[simp] theorem State.openEntry_group (s : State) (e : Entry) (y : Group) :
    (s.openEntry e).group y = s.group y := State.group_congr (by simp) y

@[simp] theorem State.openEntry_chain (s : State) (e : Entry) (m : Link) :
    (s.openEntry e).chain m = s.chain m := State.chain_congr (by simp) (by simp) m

@[simp] theorem State.setPhase_group (s : State) (p : Point) (ph : Phase) (timer : Option Nat) (y : Group) :
    (s.setPhase p ph timer).group y = s.group y := State.group_congr (by simp) y

@[simp] theorem State.setPhase_chain (s : State) (p : Point) (ph : Phase) (timer : Option Nat) (m : Link) :
    (s.setPhase p ph timer).chain m = s.chain m := State.chain_congr (by simp) (by simp) m

@[simp] theorem State.copy_group (s : State) (p : Point) (ph : Phase) (mark : Bool) (y : Group) :
    (s.copy p ph mark).group y = s.group y := State.group_congr (by simp) y

@[simp] theorem State.copy_chain (s : State) (p : Point) (ph : Phase) (mark : Bool) (m : Link) :
    (s.copy p ph mark).chain m = s.chain m := State.chain_congr (by simp) (by simp) m

@[simp] theorem State.setLatches_point (s : State) (p : Point) (ph : Phase) (y : Point) :
    (s.setLatches p ph).point y = s.point y := State.point_congr (by simp) y

@[simp] theorem State.setLatches_group (s : State) (p : Point) (ph : Phase) (y : Group) :
    (s.setLatches p ph).group y = s.group y := State.group_congr (by simp) y

@[simp] theorem State.setLatches_chain (s : State) (p : Point) (ph : Phase) (m : Link) :
    (s.setLatches p ph).chain m = s.chain m := State.chain_congr (by simp) (by simp) m

@[simp] theorem State.reevaluate_point (s : State) (y : Point) :
    (s.reevaluate).point y = s.point y := State.point_congr (by simp) y

@[simp] theorem State.reevaluate_group (s : State) (y : Group) :
    (s.reevaluate).group y = s.group y := State.group_congr (by simp) y

@[simp] theorem State.reevaluate_chain (s : State) (m : Link) :
    (s.reevaluate).chain m = s.chain m := State.chain_congr (by simp) (by simp) m

@[simp] theorem State.tell_group (s : State) (p : Point) (ph : Phase) (mark : Bool) (y : Group) :
    (s.tell p ph mark).group y = s.group y := State.group_congr (by simp) y

@[simp] theorem State.tell_chain (s : State) (p : Point) (ph : Phase) (mark : Bool) (m : Link) :
    (s.tell p ph mark).chain m = s.chain m := State.chain_congr (by simp) (by simp) m

@[simp] theorem State.renewLease_point (s : State) (l : Link) (y : Point) :
    (s.renewLease l).point y = s.point y := State.point_congr (by simp) y

@[simp] theorem State.renewLease_group (s : State) (l : Link) (y : Group) :
    (s.renewLease l).group y = s.group y := State.group_congr (by simp) y

@[simp] theorem State.renewLease_chain (s : State) (l : Link) (m : Link) :
    (s.renewLease l).chain m = s.chain m := State.chain_congr (by simp) (by simp) m

@[simp] theorem State.append_point (s : State) (k : RecordKind) (src : Source) (p : Option Point) (g : Option Group) (y : Point) :
    (s.append k src p g).point y = s.point y := State.point_congr (by simp) y

@[simp] theorem State.append_group (s : State) (k : RecordKind) (src : Source) (p : Option Point) (g : Option Group) (y : Group) :
    (s.append k src p g).group y = s.group y := State.group_congr (by simp) y

@[simp] theorem State.offer_point (s : State) (y : Point) :
    (s.offer).point y = s.point y := State.point_congr (by simp) y

@[simp] theorem State.offer_group (s : State) (y : Group) :
    (s.offer).group y = s.group y := State.group_congr (by simp) y

@[simp] theorem State.startTx_point (s : State) (l : Link) (y : Point) :
    (s.startTx l).point y = s.point y := State.point_congr (by simp) y

@[simp] theorem State.startTx_group (s : State) (l : Link) (y : Group) :
    (s.startTx l).group y = s.group y := State.group_congr (by simp) y

@[simp] theorem State.finish_point (s : State) (y : Point) :
    (s.finish).point y = s.point y := State.point_congr (by simp) y

@[simp] theorem State.finish_group (s : State) (y : Group) :
    (s.finish).group y = s.group y := State.group_congr (by simp) y

/-- The point a phase change sets, every other point as before (03 R46). -/
theorem State.point_setPhase (s : State) (p q : Point) (ph : Phase) (timer : Option Nat) :
    (s.setPhase p ph timer).point q = if q = p then { s.point p with phase := ph, realert := timer } else s.point q := by
  unfold State.setPhase; exact State.point_modifyPoint s p q _

/-- The point told to the output unit, every other point as before (06 R111). -/
theorem State.point_tell (s : State) (p q : Point) (ph : Phase) (mark : Bool) :
    (s.tell p ph mark).point q = if q = p then { s.point p with shownPhase := ph, shownMark := mark } else s.point q := by
  have h : (s.tell p ph mark).point q = (s.copy p ph mark).point q := State.point_congr rfl q
  rw [h]
  exact State.point_modifyPoint s p q _

end Sys2Proof.Machine
end

