-- ==== Sys2Proof/Laws/Chains.lean ====
section
/-! SUPPORT. What appending, offering and transmitting leave of a chain. -/

namespace Sys2Proof.Machine

theorem Undisturbed.rfl' (c : Chain) : Undisturbed c c := ⟨rfl, rfl, rfl, fun _ => rfl, fun _ => rfl⟩

theorem Undisturbed.of_eq {c d : Chain} (h : d = c) : Undisturbed c d := h ▸ Undisturbed.rfl' c

theorem Undisturbed.trans {c d e : Chain} (h : Undisturbed c d) (k : Undisturbed d e) : Undisturbed c e := by
  obtain ⟨h1, h2, h3, h4, h5⟩ := h
  obtain ⟨k1, k2, k3, k4, k5⟩ := k
  refine ⟨k1.trans h1, k2.trans h2, k3.trans h3, fun i => ?_, fun i => ?_⟩
  · rw [k4 (by rw [h4 i]; exact i), h4 i]
  · rw [k5 ?_, h5 i]
    rcases i with i | i
    · exact .inl (by rw [h4 i]; exact i)
    · exact .inr (by rw [h5 (.inr i)]; exact i)

/-- An offer changes next, the timer and the offer list, and no more (09 R155). -/
@[simp] theorem Delivery.offerOne_state (held : Seq → Bool) (d : Delivery) : (d.offerOne held).state = d.state := by
  unfold Delivery.offerOne; repeat' split
  all_goals rfl

@[simp] theorem Delivery.offerOne_retry (held : Seq → Bool) (d : Delivery) : (d.offerOne held).retry = d.retry := by
  unfold Delivery.offerOne; repeat' split
  all_goals rfl

@[simp] theorem Delivery.offerOne_confirmed (held : Seq → Bool) (d : Delivery) :
    (d.offerOne held).confirmed = d.confirmed := by
  unfold Delivery.offerOne; repeat' split
  all_goals rfl

@[simp] theorem Delivery.offerUpTo_state (held : Seq → Bool) (k : Nat) (d : Delivery) :
    (d.offerUpTo held k).state = d.state := by
  induction k generalizing d with
  | zero => rfl
  | succ k ih => simp [Delivery.offerUpTo, ih]

@[simp] theorem Delivery.offerUpTo_retry (held : Seq → Bool) (k : Nat) (d : Delivery) :
    (d.offerUpTo held k).retry = d.retry := by
  induction k generalizing d with
  | zero => rfl
  | succ k ih => simp [Delivery.offerUpTo, ih]

@[simp] theorem Delivery.offerUpTo_confirmed (held : Seq → Bool) (k : Nat) (d : Delivery) :
    (d.offerUpTo held k).confirmed = d.confirmed := by
  induction k generalizing d with
  | zero => rfl
  | succ k ih => simp [Delivery.offerUpTo, ih]

/-- A delivery that is not LIVE offers nothing (09 R155). -/
theorem Delivery.offerOne_idle (held : Seq → Bool) (d : Delivery) (h : d.state ≠ .live) : d.offerOne held = d := by
  unfold Delivery.offerOne
  split
  · simp [h]
  · rfl

theorem Delivery.offerUpTo_idle (held : Seq → Bool) (k : Nat) (d : Delivery) (h : d.state ≠ .live) :
    d.offerUpTo held k = d := by
  induction k with
  | zero => rfl
  | succ k ih => rw [Delivery.offerUpTo, Delivery.offerOne_idle held d h, ih]

@[simp] theorem Delivery.drop_state (n : Seq) (d : Delivery) : (d.drop n).state = d.state := by
  unfold Delivery.drop; repeat' split
  all_goals rfl

@[simp] theorem Delivery.drop_retry (n : Seq) (d : Delivery) : (d.drop n).retry = d.retry := by
  unfold Delivery.drop; repeat' split
  all_goals rfl

/-- A drop leaves a delivery that is not LIVE as it is (09 R163). -/
theorem Delivery.drop_idle (n : Seq) (d : Delivery) (h : d.state ≠ .live) : d.drop n = d := by
  unfold Delivery.drop
  split
  · simp [h]
  · rfl

/-- A chain whose delivery alone changed, with state and retry count kept. -/
theorem Undisturbed.of_delivery (c : Chain) (d : Delivery) (hs : d.state = c.delivery.state)
    (hr : d.retry = c.delivery.retry) : Undisturbed c { c with delivery := d } :=
  ⟨rfl, hs, hr, fun _ => rfl, fun _ => rfl⟩

theorem State.dropOldest_chain (s : State) (l : Link) : Undisturbed (s.chain l) (s.dropOldest.chain l) := by
  unfold State.dropOldest
  split
  · exact .rfl' _
  · cases l <;> exact .of_delivery _ _ (by simp [State.chain]) (by simp [State.chain])

/-- An append disturbs no chain but through the drop it tells the deliveries (08 R145). -/
theorem State.append_undisturbed (s : State) (k : RecordKind) (src : Source) (p : Option Point) (g : Option Group)
    (l : Link) : Undisturbed (s.chain l) ((s.append k src p g).chain l) := by
  have h : (s.append k src p g).chain l = s.makeRoom.chain l := by cases l <;> rfl
  rw [h]
  unfold State.makeRoom
  split
  · exact .rfl' _
  · exact s.dropOldest_chain l

theorem State.offer_undisturbed (s : State) (l : Link) : Undisturbed (s.chain l) (s.offer.chain l) := by
  cases l <;> exact .of_delivery _ _ (by simp [State.chain]) (by simp [State.chain])

/-- A transmitter begins a frame only while its line is free (10 R176). -/
theorem State.startTx_undisturbed (s : State) (l m : Link) : Undisturbed (s.chain m) ((s.startTx l).chain m) := by
  by_cases hm : m = l
  · subst hm
    unfold State.startTx
    dsimp only
    repeat' split
    · exact .rfl' _
    · rename_i hl _ r hr
      simp only [State.chain_setChain_self]
      exact ⟨rfl, rfl, rfl, by simp [hl], by simp [hl, hr]⟩
    · exact .rfl' _
    · rename_i hl _ _ _ _ _ _ _ _ _
      simp only [State.chain_setChain_self]
      exact ⟨rfl, rfl, rfl, by simp [hl], fun _ => rfl⟩
    · simp only [State.chain_setChain_self]
      exact ⟨rfl, rfl, rfl, fun _ => rfl, fun _ => rfl⟩
  · refine .of_eq ?_
    unfold State.startTx
    dsimp only
    repeat' split
    all_goals first | rfl | simp [State.chain_setChain, hm]

/-- The end of an event disturbs no chain but through new offers and new transmissions (09 R155, 10 R176). -/
theorem State.finish_undisturbed (s : State) (l : Link) : Undisturbed (s.chain l) (s.finish.chain l) :=
  (s.offer_undisturbed l).trans ((State.startTx_undisturbed s.offer .a l).trans (State.startTx_undisturbed _ .b l))

/-- The end of an event touches nothing but the chains. -/
theorem State.finish_frame (s : State) : s.finish = { s with chainA := s.finish.chainA, chainB := s.finish.chainB } := by
  unfold State.finish
  rw [State.startTx_frame, State.startTx_frame s.offer .a]
  rfl

end Sys2Proof.Machine
end

