-- ==== Sys2Proof/Laws/Numbers.lean ====
section
/-! SUPPORT. Sequence numbers along the cycle, and a journal of consecutive numbers. -/

namespace Sys2Proof.Machine

/-- The cycle never reaches 0 (08 R142). -/
theorem seqNext_ne_zero (n : Seq) : seqNext n ≠ 0 := by
  unfold seqNext; split
  · decide
  · rename_i h; intro e; apply h; have := congrArg (· - (1:Seq)) e; simp at this; exact this

/-- The number after a number (08 R142). -/
theorem seqNext_toNat (n : Seq) : (seqNext n).toNat = if n.toNat = 4294967295 then 1 else n.toNat + 1 := by
  unfold seqNext
  by_cases h : n = 0xFFFFFFFF
  · subst h; rfl
  · have : n.toNat ≠ 4294967295 := fun e => h (BitVec.eq_of_toNat_eq (by simpa using e))
    have := n.isLt
    rw [if_neg h, if_neg ‹_›, BitVec.toNat_add]; simp; omega

/-- The record at an index of a consecutive journal stands that far from the oldest, and is not 0 (08 R143, R144). -/
theorem consecutive.getElem (j : List Record) (last : Seq) (h : consecutive last j) (hl : j.length < 4294967295) :
   ∀ x, j.head? = some x → ∀ i (hi : i < j.length), forward x.seq (j[i]).seq = i ∧ (j[i]).seq ≠ 0 := by
  induction j with
  | nil => simp
  | cons r rest ih =>
    intro x hx i hi
    obtain rfl : r = x := by simpa using hx
    cases i with
    | zero => exact ⟨by simp [forward], h.1⟩
    | succ i =>
      cases rest with
      | nil => simp at hi
      | cons y rest =>
        have h2 := ih h.2.2 (by simp at hl ⊢; omega) y rfl i (by simpa using hi)
        have h1 : seqNext r.seq = y.seq := h.2.1
        refine ⟨?_, h2.2⟩
        have e := seqNext_toNat r.seq
        have a := h2.1
        rw [← h1] at a
        have hr0 : r.seq.toNat ≠ 0 := fun e0 => h.1 (BitVec.eq_of_toNat_eq (by simpa using e0))
        have hz0 : ((y :: rest)[i]'(by simpa using hi)).seq.toNat ≠ 0 := fun e0 => h2.2 (BitVec.eq_of_toNat_eq (by simpa using e0))
        have hb := ((y :: rest)[i]'(by simpa using hi)).seq.isLt
        have hb2 := r.seq.isLt
        simp only [List.getElem_cons_succ]
        simp only [List.length_cons] at hi hl
        unfold forward at a ⊢
        rw [e] at a
        generalize (((y :: rest)[i]'(by simpa using hi)).seq).toNat = z at *
        generalize r.seq.toNat = w at *
        split at a <;> split <;> split at a <;> omega

/-- The number that comes next stands at the journal's length from the oldest (08 R143, R144). -/
theorem consecutive.next (j : List Record) (last : Seq) (h : consecutive last j) (hl : j.length < 4294967295) (x) (hx : j.head? = some x) : forward x.seq last = j.length := by
  have hj : j ≠ [] := by rintro rfl; simp at hx
  have G := consecutive.getElem j last h hl x hx (j.length - 1) (by have := List.length_pos_iff.mpr hj; omega)
  have hL : seqNext (j.getLast hj).seq = last := by
    clear G hx hl
    induction j with
    | nil => simp at hj
    | cons r rest ih =>
      cases rest with
      | nil => exact h.2.1
      | cons y rest => simpa using ih h.2.2 (by simp)
  rw [← List.getLast_eq_getElem hj] at G
  have e := seqNext_toNat (j.getLast hj).seq
  rw [hL] at e
  have hx0 : x.seq.toNat ≠ 0 := by
    cases j with
    | nil => simp at hj
    | cons r rest => obtain rfl : r = x := by simpa using hx
                     exact fun e0 => h.1 (BitVec.eq_of_toNat_eq (by simpa using e0))
  have a1 : (j.getLast hj).seq.toNat ≠ 0 := fun e0 => G.2 (BitVec.eq_of_toNat_eq (by simpa using e0))
  have hp := List.length_pos_iff.mpr hj
  have b1 := (j.getLast hj).seq.isLt; have b3 := x.seq.isLt
  have g1 := G.1
  unfold forward at g1 ⊢
  split at g1 <;> split at e <;> split <;> omega

end Sys2Proof.Machine
end

