-- ==== Sys2Proof/Laws/Sequence.lean ====
section
/-! SUPPORT. What the shared operations of the alarm list, the sequence engine and the output unit do, and what they leave. -/

namespace Sys2Proof.Machine

/-! ### Agreement of definitions -/

/-- Two states with the same definitions. -/
def SameDefinitions (s t : State) : Prop :=
  (∀ p, (t.point p).definition = (s.point p).definition) ∧ ∀ g, (t.group g).definition = (s.group g).definition

theorem SameDefinitions.rfl' (s : State) : SameDefinitions s s := ⟨fun _ => rfl, fun _ => rfl⟩

theorem SameDefinitions.trans {s t u : State} (h : SameDefinitions s t) (k : SameDefinitions t u) :
    SameDefinitions s u :=
  ⟨fun p => (k.1 p).trans (h.1 p), fun g => (k.2 g).trans (h.2 g)⟩

theorem SameDefinitions.of_tables {s t : State} (hp : t.points = s.points) (hg : t.groups = s.groups) :
    SameDefinitions s t :=
  ⟨fun p => by rw [State.point_congr hp], fun g => by rw [State.group_congr hg]⟩

theorem SameDefinitions.modifyPoint (s : State) (p : Point) (f : PointState → PointState)
    (h : (f (s.point p)).definition = (s.point p).definition) : SameDefinitions s (s.modifyPoint p f) :=
  ⟨fun q => by rw [State.point_modifyPoint]; split <;> simp_all, fun _ => rfl⟩

theorem SameDefinitions.modifyGroup (s : State) (g : Group) (f : GroupState → GroupState)
    (h : (f (s.group g)).definition = (s.group g).definition) : SameDefinitions s (s.modifyGroup g f) :=
  ⟨fun _ => rfl, fun k => by rw [State.group_modifyGroup]; split <;> simp_all⟩

theorem SameDefinitions.groupOf {s t : State} (h : SameDefinitions s t) (p : Point) : t.groupOf p = s.groupOf p := by
  simp [State.groupOf, h.1]

theorem SameDefinitions.groupDefOf {s t : State} (h : SameDefinitions s t) (p : Point) :
    t.groupDefOf p = s.groupDefOf p := by
  simp [State.groupDefOf, h.groupOf, h.2]

theorem SameDefinitions.audible {s t : State} (h : SameDefinitions s t) (p : Point) : t.audible p = s.audible p := by
  simp [State.audible, h.groupDefOf]

/-! ### The latches' conditions -/

theorem State.hornCondition_congr {s t : State} (hp : t.points = s.points) (hg : t.groups = s.groups) :
    t.hornCondition = s.hornCondition := by
  simp only [State.hornCondition, (SameDefinitions.of_tables hp hg).audible, State.point_congr hp]

theorem State.toneCondition_congr {s t : State} (hp : t.points = s.points) (hg : t.groups = s.groups) :
    t.toneCondition = s.toneCondition := by
  simp only [State.toneCondition, (SameDefinitions.of_tables hp hg).audible, State.point_congr hp]

/-! ### The output unit -/

@[simp] theorem State.point_copy (s : State) (p : Point) (ph : Phase) (mark : Bool) :
    (s.copy p ph mark).point p = { s.point p with shownPhase := ph, shownMark := mark } := by
  simp [State.copy]

@[simp] theorem State.tell_points (s : State) (p : Point) (ph : Phase) (mark : Bool) :
    (s.tell p ph mark).points = (s.copy p ph mark).points := rfl

/-- A phase told to the output unit sets, then re-evaluates, the latches (06 R117 to R119). -/
theorem State.tell_output (s : State) (p : Point) (ph : Phase) (mark : Bool) :
    (s.tell p ph mark).output =
      { s.output with
        horn := (s.output.horn || (s.audible p && decide (ph = .alert))) && (s.tell p ph mark).hornCondition,
        tone := (s.output.tone || (s.audible p && decide (ph = .ringback))) && (s.tell p ph mark).toneCondition } := by
  have h : SameDefinitions s (s.copy p ph mark) := .modifyPoint s p _ rfl
  have hh : (s.tell p ph mark).hornCondition = ((s.copy p ph mark).setLatches p ph).hornCondition :=
    State.hornCondition_congr rfl rfl
  have ht : (s.tell p ph mark).toneCondition = ((s.copy p ph mark).setLatches p ph).toneCondition :=
    State.toneCondition_congr rfl rfl
  rw [hh, ht]
  simp [State.tell, State.reevaluate, State.setLatches, State.modifyOutput, h.audible, State.copy_output]

/-! ### Phase changes -/

theorem SameDefinitions.setPhase (s : State) (p : Point) (ph : Phase) (timer : Option Nat) :
    SameDefinitions s (s.setPhase p ph timer) :=
  .modifyPoint s p (fun x => { x with phase := ph, realert := timer }) rfl

/-- The state a phase change has reached when its record stands in the journal (03 R46 steps 1 and 2). -/
theorem State.recorded_sameDefinitions (s : State) (p : Point) (ph : Phase) (timer : Option Nat) (kind : RecordKind)
    (src : Source) : SameDefinitions s ((s.setPhase p ph timer).appendPoint kind src p) :=
  (SameDefinitions.setPhase s p ph timer).trans (.of_tables (by simp [State.appendPoint]) (by simp [State.appendPoint]))

theorem SameDefinitions.recorded (s : State) (p : Point) (ph : Phase) (timer : Option Nat) (kind : RecordKind)
    (src : Source) (q : Option Point) (g : Option Group) :
    SameDefinitions s ((s.setPhase p ph timer).append kind src q g) :=
  (SameDefinitions.setPhase s p ph timer).trans (.of_tables (by simp) (by simp))

@[simp] theorem State.audible_modifyEntry (s : State) (p q : Point) (f : Entry → Entry) :
    (s.modifyEntry p f).audible q = s.audible q := (SameDefinitions.of_tables rfl rfl).audible q

/-- Within an episode a phase change mirrors the entry, and clears or gives no mark (03 R46, 04 R74). -/
theorem State.move_entry (s : State) (p : Point) (ph : Phase) (timer : Option Nat) (kind : RecordKind) (src : Source)
    (upd : Entry → Entry) (h : ph.hasEntry = true) :
    s.move p ph timer kind src upd =
      (((s.setPhase p ph timer).append kind src (some p) (s.groupOf p)).modifyEntry p
        fun e => upd { e with phase := ph }).tell p ph (s.point p).shownMark := by
  have hd := SameDefinitions.setPhase s p ph timer
  simp [State.move, h, State.appendPoint, hd.groupOf]

/-- Out of an episode a phase change closes the entry (03 R46, 04 R76). -/
theorem State.move_close (s : State) (p : Point) (ph : Phase) (timer : Option Nat) (kind : RecordKind) (src : Source)
    (upd : Entry → Entry) (h : ph.hasEntry = false) :
    s.move p ph timer kind src upd =
      (((s.setPhase p ph timer).append kind src (some p) (s.groupOf p)).closeEntry p src).tell p ph false := by
  have hd := SameDefinitions.setPhase s p ph timer
  simp [State.move, h, State.appendPoint, hd.groupOf]

@[simp] theorem State.move_time (s : State) (p : Point) (ph : Phase) (timer : Option Nat) (kind : RecordKind)
    (src : Source) (upd : Entry → Entry) : (s.move p ph timer kind src upd).time = s.time := by
  unfold State.move
  dsimp only
  split
  · simp [State.appendPoint]
  · unfold State.closeEntry
    repeat' split
    all_goals simp [State.appendPoint]

/-- What a phase change within an episode does to the parts it touches. -/
structure Mirrors (s t : State) (p : Point) (ph : Phase) (timer : Option Nat) (item : Item) (upd : Entry → Entry) : Prop where
  point : t.point p = (s.point p).moved ph timer (s.point p).shownMark
  others : OnlyPoint s t p
  list : t.alarmList = mirrored s.alarmList p (fun e => upd { e with phase := ph })
  journal : s.journal.length ≤ Config.journalCapacity → Grows s t [item]
  latches : Latched s t (s.audible p && decide (ph = .alert)) (s.audible p && decide (ph = .ringback))
  chains : ∀ l, Undisturbed (s.chain l) (t.chain l)
  frame : t = { s with points := t.points, alarmList := t.alarmList, journal := t.journal, nextSeq := t.nextSeq, output := t.output, chainA := t.chainA, chainB := t.chainB }

/-- One append is the growth by one record (08 R142, R145). -/
theorem Grows.append (s t : State) (k : RecordKind) (src : Source) (p : Option Point) (g : Option Group)
    (hj : s.journal.length ≤ Config.journalCapacity) (ht : t.time = s.time)
    (h1 : t.journal = (s.append k src p g).journal) (h2 : t.nextSeq = (s.append k src p g).nextSeq) :
    Grows s t [(k, src, p, g)] := by
  refine ⟨?_, by rw [h2]; rfl⟩
  rw [h1, State.append_journal, newest, recordsFrom, recordsFrom, ht]
  by_cases h : s.journal.length < Config.journalCapacity
  · have : (s.journal ++ [s.newRecord k src p g]).length - Config.journalCapacity = 0 := by simp; omega
    simp only [if_pos h]
    exact (by rw [show s.journal ++ [({ seq := s.nextSeq, stamp := s.time, kind := k, source := src, point := p, group := g } : Record)] = s.journal ++ [s.newRecord k src p g] from rfl, this]; rfl)
  · have h' : s.journal.length = Config.journalCapacity := by omega
    simp only [if_neg h]
    have : (s.journal ++ [s.newRecord k src p g]).length - Config.journalCapacity = 1 := by simp [h']
    rw [show s.journal ++ [({ seq := s.nextSeq, stamp := s.time, kind := k, source := src, point := p, group := g } : Record)] = s.journal ++ [s.newRecord k src p g] from rfl, this]
    cases hs : s.journal with
    | nil => simp [hs, Config.journalCapacity] at h'
    | cons r rest => simp

theorem Latched.of_output {s t : State} {a b : Bool} (h : Latched s t a b) {u : State} (hp : u.points = t.points)
    (hg : u.groups = t.groups) (ho : u.output = t.output) : Latched s u a b := by
  unfold Latched at *
  rw [ho, State.hornCondition_congr hp hg, State.toneCondition_congr hp hg]
  exact h

/-- A phase change within an episode, ended by its offers (03 R46 to R48, 04 R74). -/
theorem State.move_mirrors (s : State) (p : Point) (ph : Phase) (timer : Option Nat) (kind : RecordKind) (src : Source)
    (upd : Entry → Entry) (h : ph.hasEntry = true) :
    Mirrors s (s.move p ph timer kind src upd) p ph timer (kind, src, some p, s.groupOf p) upd := by
  have hd := SameDefinitions.recorded s p ph timer kind src (some p) (s.groupOf p)
  rw [State.move_entry s p ph timer kind src upd h]
  constructor
  · simp [State.point_tell, State.point_setPhase, PointState.moved]
  · intro q hq
    simp [State.point_tell, State.point_setPhase, hq]
  · simp [State.modifyEntry, mirrored]
  · exact fun hj => .append s _ kind src (some p) (s.groupOf p) hj (by simp)
      (by simpa using State.append_journal_congr _ _ _ _ (by simp) (by simp) (by simp)) (by simp)
  · unfold Latched
    rw [State.tell_output]
    simp [State.audible_modifyEntry, hd.audible]
  · intro l
    refine .trans (State.append_undisturbed (s.setPhase p ph timer) kind src (some p) (s.groupOf p) l) (.of_eq ?_)
    simp
  · exact State.eq_of_fields (by simp)

/-- Two appends are the growth by two records (08 R143, R145). -/
theorem Grows.append_two (s u t : State) (i j : Item) (hj : s.journal.length ≤ Config.journalCapacity)
    (ht : t.time = s.time) (hu : u.time = s.time)
    (h1 : u.journal = (s.append i.1 i.2.1 i.2.2.1 i.2.2.2).journal) (h2 : u.nextSeq = seqNext s.nextSeq)
    (k1 : t.journal = (u.append j.1 j.2.1 j.2.2.1 j.2.2.2).journal) (k2 : t.nextSeq = seqNext u.nextSeq) :
    Grows s t [i, j] := by
  obtain ⟨ik, is, ip, ig⟩ := i
  obtain ⟨jk, js, jp, jg⟩ := j
  refine ⟨?_, by rw [k2, h2]; rfl⟩
  rw [k1, State.append_journal, h1, State.append_journal]
  simp only [recordsFrom, newest, State.newRecord, h2, hu, ht]
  by_cases h : s.journal.length < Config.journalCapacity
  · by_cases h' : s.journal.length + 1 < Config.journalCapacity
    · have e : s.journal.length + 2 - Config.journalCapacity = 0 := by omega
      simp [h, h', e]
    · have e : s.journal.length + 2 - Config.journalCapacity = 1 := by omega
      simp only [if_pos h, List.length_append, List.length_cons, List.length_nil, e]
      cases hs : s.journal with
      | nil => simp [hs, Config.journalCapacity] at h'
      | cons r rest =>
        have h'' : ¬ rest.length + 2 < Config.journalCapacity := by simpa [hs] using h'
        simp [h'']
  · have hl : s.journal.length = Config.journalCapacity := by omega
    have e : s.journal.length + 2 - Config.journalCapacity = 2 := by omega
    simp only [if_neg h, List.length_append, List.length_cons, List.length_nil, e]
    cases hs : s.journal with
    | nil => simp [hs, Config.journalCapacity] at hl
    | cons r rest =>
      have h1 : rest.length + 1 = Config.journalCapacity := by simpa [hs] using hl
      cases rest with
      | nil => simp [Config.journalCapacity] at h1
      | cons x rest => simp [← h1]

theorem State.entry?_point {s : State} {p : Point} {e : Entry} (h : s.entry? p = some e) : e.point = p := by
  simpa using List.find?_some h

/-- What a phase change out of an episode does to the parts it touches (03 R46, 04 R76, R80). -/
structure Closes (s t : State) (p : Point) (ph : Phase) (timer : Option Nat) (item : Item) (src : Source) : Prop where
  point : t.point p = (s.point p).moved ph timer false
  others : OnlyPoint s t p
  list : t.alarmList = closed s.alarmList p
  noEntry : s.entry? p = none → t.groups = s.groups ∧ (s.journal.length ≤ Config.journalCapacity → Grows s t [item])
  anEntry : ∀ e, s.entry? p = some e → OnlyGroup s t e.group ∧
    t.group e.group = { s.group e.group with firstOut := if e.firstOut then .none else (s.group e.group).firstOut } ∧
    (s.journal.length ≤ Config.journalCapacity → Grows s t (item :: goneItems e src))
  latches : Latched s t (s.audible p && decide (ph = .alert)) (s.audible p && decide (ph = .ringback))
  chains : ∀ l, Undisturbed (s.chain l) (t.chain l)
  frame : t = { s with points := t.points, groups := t.groups, alarmList := t.alarmList, journal := t.journal, nextSeq := t.nextSeq, output := t.output, chainA := t.chainA, chainB := t.chainB }

/-- The state with an entry filtered out. -/
theorem State.closeEntry_cases (s : State) (p : Point) (src : Source) :
    (s.entry? p = none ∧ s.closeEntry p src = s.dropEntry p) ∨
    (∃ e, s.entry? p = some e ∧ e.firstOut = false ∧ s.closeEntry p src = s.dropEntry p) ∨
    (∃ e, s.entry? p = some e ∧ e.firstOut = true ∧
      s.closeEntry p src =
        ((s.dropEntry p).modifyGroup e.group fun g => { g with firstOut := none }).append
          (.firstOutCleared .gone) src (some p) (some e.group)) := by
  unfold State.closeEntry
  split
  · rename_i h; exact .inl ⟨h, rfl⟩
  · rename_i e h
    split
    · rename_i hf; exact .inr (.inr ⟨e, h, hf, rfl⟩)
    · rename_i hf; exact .inr (.inl ⟨e, h, by simpa using hf, rfl⟩)

theorem SameDefinitions.closeEntry (s : State) (p : Point) (src : Source) : SameDefinitions s (s.closeEntry p src) := by
  rcases s.closeEntry_cases p src with ⟨-, h⟩ | ⟨e, -, -, h⟩ | ⟨e, -, -, h⟩ <;> rw [h]
  · exact .rfl' _
  · exact .rfl' _
  · refine .trans (t := s.dropEntry p) (.of_tables rfl rfl) (.trans (.modifyGroup _ e.group (fun g => { g with firstOut := none }) rfl) (.of_tables (by simp) (by simp)))

theorem State.move_closes (s : State) (p : Point) (ph : Phase) (timer : Option Nat) (kind : RecordKind) (src : Source)
    (upd : Entry → Entry) (h : ph.hasEntry = false) :
    Closes s (s.move p ph timer kind src upd) p ph timer (kind, src, some p, s.groupOf p) src := by
  have hd := SameDefinitions.recorded s p ph timer kind src (some p) (s.groupOf p)
  have hc := SameDefinitions.closeEntry ((s.setPhase p ph timer).append kind src (some p) (s.groupOf p)) p src
  have he : ((s.setPhase p ph timer).append kind src (some p) (s.groupOf p)).entry? p = s.entry? p := by
    simp [State.entry?]
  have hl : ∀ l, Undisturbed (s.chain l) (((s.setPhase p ph timer).append kind src (some p) (s.groupOf p)).chain l) := fun l => by
    simpa using State.append_undisturbed (s.setPhase p ph timer) kind src (some p) (s.groupOf p) l
  rw [State.move_close s p ph timer kind src upd h]
  have lat : Latched s (((s.setPhase p ph timer).append kind src (some p) (s.groupOf p)).closeEntry p src |>.tell p ph false)
      (s.audible p && decide (ph = .alert)) (s.audible p && decide (ph = .ringback)) := by
    unfold Latched
    rw [State.tell_output, hc.audible, hd.audible]
    have : (((s.setPhase p ph timer).append kind src (some p) (s.groupOf p)).closeEntry p src).output = s.output := by
      rcases State.closeEntry_cases ((s.setPhase p ph timer).append kind src (some p) (s.groupOf p)) p src with
        ⟨-, h⟩ | ⟨e, -, -, h⟩ | ⟨e, -, -, h⟩ <;> rw [h] <;> simp
    rw [this]
  have grow : s.journal.length ≤ Config.journalCapacity → ∀ u : State, u.time = s.time →
      u.journal = ((s.setPhase p ph timer).append kind src (some p) (s.groupOf p)).journal →
      u.nextSeq = seqNext s.nextSeq → Grows s u [(kind, src, some p, s.groupOf p)] := fun hj u h1 h2 h3 =>
    .append s u kind src (some p) (s.groupOf p) hj h1
      (h2.trans (State.append_journal_congr _ _ _ _ (by simp) (by simp) (by simp))) h3
  rcases State.closeEntry_cases ((s.setPhase p ph timer).append kind src (some p) (s.groupOf p)) p src with
    ⟨h0, h1⟩ | ⟨e, h0, hf, h1⟩ | ⟨e, h0, hf, h1⟩ <;> rw [he] at h0 <;> rw [h1] at lat ⊢
  · exact {
      point := by simp [State.point_tell, State.point_setPhase, PointState.moved]
      others := fun q hq => by simp [State.point_tell, State.point_setPhase, hq]
      list := by simp [State.dropEntry, closed]
      noEntry := fun _ => ⟨by simp, fun hj => grow hj _ (by simp) (by simp) (by simp)⟩
      anEntry := fun e h => by simp [h0] at h
      latches := lat
      chains := fun l => (hl l).trans (.of_eq (by simp))
      frame := State.eq_of_fields (by simp) }
  · exact {
      point := by simp [State.point_tell, State.point_setPhase, PointState.moved]
      others := fun q hq => by simp [State.point_tell, State.point_setPhase, hq]
      list := by simp [State.dropEntry, closed]
      noEntry := fun h => by simp [h0] at h
      anEntry := fun e' h => by
        obtain rfl : e = e' := by simpa [h0] using h
        refine ⟨fun k hk => by simp, by simp [hf], fun hj => ?_⟩
        simpa [goneItems, hf] using grow hj _ (by simp) (by simp) (by simp)
      latches := lat
      chains := fun l => (hl l).trans (.of_eq (by simp))
      frame := State.eq_of_fields (by simp) }
  · exact {
      point := by simp [State.point_tell, State.point_setPhase, PointState.moved]
      others := fun q hq => by simp [State.point_tell, State.point_setPhase, hq]
      list := by simp [State.dropEntry, closed]
      noEntry := fun h => by simp [h0] at h
      anEntry := fun e' h => by
        obtain rfl : e = e' := by simpa [h0] using h
        refine ⟨fun k hk => by simp [State.group_modifyGroup, hk], by simp [hf], fun hj => ?_⟩
        simp only [goneItems, hf, if_true, State.entry?_point h0]
        refine Grows.append_two s ((s.setPhase p ph timer).append kind src (some p) (s.groupOf p)) _
          (kind, src, some p, s.groupOf p) (.firstOutCleared .gone, src, some p, some e.group) hj ?_ ?_ ?_ ?_ ?_ ?_
        · simp
        · simp
        · exact State.append_journal_congr _ _ _ _ (by simp) (by simp) (by simp)
        · simp
        · rw [State.tell_journal]; exact State.append_journal_congr _ _ _ _ (by simp) (by simp) (by simp)
        · simp
      latches := lat
      chains := fun l => (hl l).trans (by
        simpa using State.append_undisturbed
          ((((s.setPhase p ph timer).append kind src (some p) (s.groupOf p)).dropEntry p).modifyGroup e.group
            fun g => { g with firstOut := .none }) (.firstOutCleared .gone) src (some p) (some e.group) l)
      frame := State.eq_of_fields (by simp) }

end Sys2Proof.Machine
end

