-- ==== Sys2Proof/Laws/Requests.lean ====
section
/-! SUPPORT. What taking a request and queueing its reply do. -/

namespace Sys2Proof.Machine

/-- A link that has a request to take has a waiting place for the reply. -/
theorem firstReady_answered {places : List Place} {q : Request} (r : Reply)
    (h : places.findSome? Place.request? = some q) :
    (firstReady (replaceFirst (Place.answerWith r) places)).isSome = true := by
  induction places with
  | nil => simp at h
  | cons x rest ih =>
    cases x with
    | waiting k t b => simp [replaceFirst, Place.answerWith, firstReady]
    | inProgress k t => simpa [replaceFirst, Place.answerWith, firstReady] using ih (by simpa [List.findSome?_cons, Place.request?] using h)
    | ready r' => simp [replaceFirst, Place.answerWith, firstReady]
    | onLine r' => simpa [replaceFirst, Place.answerWith, firstReady] using ih (by simpa [List.findSome?_cons, Place.request?] using h)

theorem Chain.findSome_of_next {c : Chain} {q : Request} (h : c.nextRequest = some q) :
    c.places.findSome? Place.request? = some q := by
  unfold Chain.nextRequest at h
  split at h
  · cases h
  · exact h

/-- A transmitter with a reply waiting begins it while its line is free, and shows the queue as it is otherwise (10 R176). -/
theorem State.startTx_shows (s : State) (l : Link) (h : (firstReady (s.chain l).places).isSome = true) :
    Shows (s.chain l) ((s.startTx l).chain l) (s.chain l).places := by
  unfold State.startTx Shows
  dsimp only
  cases hl : (s.chain l).line with
  | some f => simp [hl]
  | none =>
    cases hr : firstReady (s.chain l).places with
    | none => simp [hr] at h
    | some r => simp

/-- What a test of a link's transmitter can do (10 R176). -/
theorem State.startTx_transmits (s : State) (l : Link) : Transmits s (s.chain l) ((s.startTx l).chain l) := by
  unfold State.startTx Transmits
  refine ⟨fun h => ?_, fun r h hr => ?_, fun o rest r h hn ho hr => ?_, fun h hn ho => ?_⟩
  · obtain ⟨f, hf⟩ := Option.isSome_iff_exists.mp h
    simp [hf]
  · simp [h, hr]
  · simp [h, hn, ho, hr]
  · simp [h, hn, ho]

theorem State.startTx_other (s : State) {l m : Link} (h : m ≠ l) : (s.startTx l).chain m = s.chain m := by
  unfold State.startTx
  dsimp only
  repeat' split
  all_goals first | rfl | simp [State.chain_setChain, h]

/-- A transmitter with a reply waiting leaves the delivery alone (10 R176). -/
theorem State.startTx_delivery (s : State) (l : Link) (h : (firstReady (s.chain l).places).isSome = true) :
    ((s.startTx l).chain l).delivery = (s.chain l).delivery := by
  unfold State.startTx
  dsimp only
  cases hl : (s.chain l).line with
  | some f => simp
  | none =>
    cases hr : firstReady (s.chain l).places with
    | none => simp [hr] at h
    | some r => simp

theorem State.offer_chain (s : State) (l : Link) :
    s.offer.chain l = { s.chain l with delivery := (s.chain l).delivery.offerUpTo s.isHeld Config.deliveryWindow } := by
  cases l <;> rfl

/-- The end of an event with a reply waiting on the link: the oldest reply is begun while the line is free, and the delivery has
made its offers (09 R155, 10 R176). -/
theorem State.finish_shows (s : State) (l : Link) (h : (firstReady (s.chain l).places).isSome = true) :
    Shows (s.chain l) (s.finish.chain l) (s.chain l).places ∧
      (s.finish.chain l).delivery = (s.chain l).delivery.offerUpTo s.isHeld Config.deliveryWindow := by
  have ho : (s.offer.chain l).places = (s.chain l).places := by rw [State.offer_chain]
  have key : ∀ u : State, u.chain l = s.offer.chain l →
      Shows (s.chain l) ((u.startTx l).chain l) (s.chain l).places ∧
        ((u.startTx l).chain l).delivery = (s.chain l).delivery.offerUpTo s.isHeld Config.deliveryWindow := by
    intro u hu
    have hr : (firstReady (u.chain l).places).isSome = true := by rw [hu, ho]; exact h
    have h1 := u.startTx_shows l hr
    have h2 := u.startTx_delivery l hr
    rw [hu] at h1 h2
    rw [ho] at h1
    refine ⟨?_, by rw [h2, State.offer_chain]⟩
    rw [State.offer_chain] at h1
    exact h1
  unfold State.finish
  cases l with
  | a =>
    rw [State.startTx_other _ (by decide)]
    exact key s.offer rfl
  | b => exact key (s.offer.startTx .a) (State.startTx_other _ (by decide))

/-- The chain whose place has been answered. -/
theorem State.conclude_chain (s : State) (l : Link) (q : Request) (r : Result) (fields : List Byte) :
    (s.conclude l q (.reply r fields)).chain l =
      { s.chain l with
        places := (s.chain l).answered { kind := q.kind, tag := q.tag, result := r, fields := fields } } := by
  simp [State.conclude, State.replacePlace, Chain.answered]

theorem State.replacePlace_other (s : State) {l m : Link} (f : Place → Option Place) (h : m ≠ l) :
    (s.replacePlace l f).chain m = s.chain m := by
  simp [State.replacePlace, State.chain_setChain, h]

theorem otherLink_ne (l : Link) : otherLink l ≠ l := by cases l <;> decide

/-- A reply queued at the end of an event, after changes that only append (10 R174, R176). -/
theorem Replies.of_finish {s u : State} {l : Link} {k : ReqKind} {tag : Byte} {body : List Byte} {r : Result}
    {fields : List Byte} (hn : (s.chain l).nextRequest = some { kind := k.code, tag := tag, body := body })
    (hl : (u.chain l).rx = (s.chain l).rx ∧ (u.chain l).places = (s.chain l).places ∧
      (u.chain l).line = (s.chain l).line)
    (ho : Undisturbed (s.chain (otherLink l)) (u.chain (otherLink l))) :
    Replies s (u.conclude l { kind := k.code, tag := tag, body := body } (.reply r fields)).finish l k tag r fields ∧
      (((u.conclude l { kind := k.code, tag := tag, body := body } (.reply r fields)).finish).chain l).delivery =
        (u.chain l).delivery.offerUpTo
          (u.conclude l { kind := k.code, tag := tag, body := body } (.reply r fields)).isHeld Config.deliveryWindow := by
  have hc := State.conclude_chain u l { kind := k.code, tag := tag, body := body } r fields
  have hp : (u.chain l).answered { kind := k.code, tag := tag, result := r, fields := fields } =
      (s.chain l).answered { kind := k.code, tag := tag, result := r, fields := fields } := by
    simp [Chain.answered, hl.2.1]
  have hr := firstReady_answered { kind := k.code, tag := tag, result := r, fields := fields } (Chain.findSome_of_next hn)
  have hf := State.finish_shows (u.conclude l { kind := k.code, tag := tag, body := body } (.reply r fields)) l
    (by rw [hc]; dsimp only; rw [hp]; exact hr)
  rw [hc] at hf
  dsimp only at hf
  rw [hp] at hf
  refine ⟨⟨?_, ?_⟩, hf.2⟩
  · have := hf.1
    unfold Shows at this ⊢
    rw [hl.1, hl.2.2] at this
    exact this
  · refine ho.trans (.trans (.of_eq ?_) (State.finish_undisturbed _ (otherLink l)))
    exact State.replacePlace_other u _ (otherLink_ne l)

/-- A reply queued with its own transmitter tested alone, by an event that leaves both chains otherwise as they were
(09 R157, 10 R174, R176). -/
theorem Answers.of_startTx {s u : State} {l : Link} {k : ReqKind} {tag : Byte} {body : List Byte} {r : Result}
    {fields : List Byte} (hn : (s.chain l).nextRequest = some { kind := k.code, tag := tag, body := body })
    (hl : u.chain l = s.chain l) (ho : u.chain (otherLink l) = s.chain (otherLink l)) :
    Answers s ((u.conclude l { kind := k.code, tag := tag, body := body } (.reply r fields)).startTx l) l k tag r fields := by
  have hc := State.conclude_chain u l { kind := k.code, tag := tag, body := body } r fields
  have hr := firstReady_answered { kind := k.code, tag := tag, result := r, fields := fields } (Chain.findSome_of_next hn)
  have hq : (firstReady (((u.conclude l { kind := k.code, tag := tag, body := body } (.reply r fields)).chain l).places)).isSome =
      true := by rw [hc, hl]; exact hr
  have h1 := State.startTx_shows _ l hq
  have h2 := State.startTx_delivery _ l hq
  rw [hc, hl] at h1 h2
  refine ⟨h1, h2, ?_⟩
  rw [State.startTx_other _ (otherLink_ne l)]
  exact (State.replacePlace_other u _ (otherLink_ne l)).trans ho

/-- The kind a code names (12 Table 12-1). -/
theorem requestKind_code (k : ReqKind) : requestKind k.code = some k := by cases k <;> decide

/-- A request that the link unit accepts is served by its owner (10 R174). -/
theorem Accepts.serve {s : State} {l : Link} {k : ReqKind} {tag : Byte} {body : List Byte} (h : Accepts s l k tag body)
    (sel : Request → Bool) (act : Request → State → State × Answer)
    (hs : sel { kind := k.code, tag := tag, body := body } = true) :
    s.serve l k sel act =
      let q : Request := { kind := k.code, tag := tag, body := body }
      let done := act q (s.renewFor l k)
      (done.1.conclude l q done.2).settle l k done.2 := by
  have hopen : ∀ m, (s.renewFor l k).session.isOpen m = s.session.isOpen m := by
    intro m; unfold State.renewFor State.renewLease; repeat' split
    all_goals rfl
  have hhold : (s.renewFor l k).session.holder = s.session.holder := by
    unfold State.renewFor State.renewLease; repeat' split
    all_goals rfl
  have hr : (s.renewFor l k).refusal l k body = none := by
    unfold State.refusal
    rw [hopen, hhold]
    have h1 : ¬ (k ≠ .hello ∧ s.session.isOpen l = false) := fun ⟨a, b⟩ => by simp [h.session a] at b
    rw [if_neg h1, if_neg (by simp [h.format])]
    cases hn : k.needsAuthority with
    | false => simp
    | true => simp [h.authority hn]
  have ho : s.offered l k sel = some { kind := k.code, tag := tag, body := body } := by
    simp [State.offered, h.next, requestKind_code, hs]
  simp only [State.serve, State.whenRunning, h.running, ho, State.handle, hr]
  rfl

/-- The session unit after the renewal of a request taken (11 R182). -/
theorem State.renewLease_session (s : State) (l : Link) : (s.renewLease l).session = s.sessionAfter l := by
  unfold State.renewLease State.sessionAfter State.leaseAfter
  split <;> rfl

theorem State.renewLease_eq (s : State) (l : Link) : s.renewLease l = { s with session := s.sessionAfter l } :=
  State.eq_of_fields (by simp [State.renewLease_session])

theorem State.renewFor_eq (s : State) (l : Link) {k : ReqKind} (h : k ≠ .hello) :
    s.renewFor l k = { s with session := s.sessionAfter l } := by
  rw [State.renewFor, if_neg h, State.renewLease_eq]

theorem State.replacePlace_frame (s : State) (l : Link) (f : Place → Option Place) :
    s.replacePlace l f = { s with chainA := (s.replacePlace l f).chainA, chainB := (s.replacePlace l f).chainB } := by
  cases l <;> rfl

theorem State.conclude_frame (s : State) (l : Link) (q : Request) (a : Answer) :
    s.conclude l q a = { s with chainA := (s.conclude l q a).chainA, chainB := (s.conclude l q a).chainB } := by
  cases a <;> exact State.replacePlace_frame s l _

/-- The lease renewal of a request taken leaves both chains alone (11 R182). -/
theorem State.renewFor_chain (s : State) (l m : Link) (k : ReqKind) : (s.renewFor l k).chain m = s.chain m := by
  unfold State.renewFor State.renewLease
  repeat' split
  all_goals cases m <;> rfl

/-- The end of a request's event touches the chains alone (10 R174). -/
theorem State.settle_frame (s : State) (l : Link) (k : ReqKind) (a : Answer) :
    s.settle l k a = { s with chainA := (s.settle l k a).chainA, chainB := (s.settle l k a).chainB } := by
  unfold State.settle
  split
  · exact State.finish_frame s
  · split
    · exact State.startTx_frame s l
    · rfl

/-- A request accepted and acted on with the reply OK: the state its command leaves is the owner's but for the chains, its reply
is queued, and its delivery has made its offers (10 R174, 09 R155). -/
theorem Accepts.acted {s : State} {l : Link} {k : ReqKind} {tag : Byte} {body : List Byte} (h : Accepts s l k tag body)
    {sel : Request → Bool} {act : Request → State → State × Answer} {u : State} {fields : List Byte}
    (hs : sel { kind := k.code, tag := tag, body := body } = true) (hk : k.reads = false)
    (ha : act { kind := k.code, tag := tag, body := body } (s.renewFor l k) = (u, .reply .ok fields))
    (hl : (u.chain l).rx = (s.chain l).rx ∧ (u.chain l).places = (s.chain l).places ∧ (u.chain l).line = (s.chain l).line)
    (ho : Undisturbed (s.chain (otherLink l)) (u.chain (otherLink l))) :
    ∃ t, s.serve l k sel act = t ∧ t = { u with chainA := t.chainA, chainB := t.chainB } ∧ Replies s t l k tag .ok fields ∧
      (t.chain l).delivery = (u.chain l).delivery.offerUpTo u.isHeld Config.deliveryWindow := by
  refine ⟨_, rfl, ?_⟩
  rw [h.serve sel act hs]
  dsimp only
  rw [ha]
  simp only [State.settle, Answer.offers, hk, decide_true, Bool.not_false, Bool.and_self, if_true]
  have h1 := Replies.of_finish (u := u) (body := body) (r := .ok) (fields := fields) h.next hl ho
  refine ⟨?_, h1.1, ?_⟩
  · rw [State.finish_frame, State.conclude_frame]
  · have e : (u.conclude l { kind := k.code, tag := tag, body := body } (.reply .ok fields)).isHeld = u.isHeld := by
      rw [State.conclude_frame]; rfl
    rw [h1.2, e]

/-- A request accepted whose owner turns it away, or that only reads: the state its command leaves is the owner's but for the
reply's place and line (09 R157, 10 R174). -/
theorem Accepts.replied {s : State} {l : Link} {k : ReqKind} {tag : Byte} {body : List Byte} (h : Accepts s l k tag body)
    {sel : Request → Bool} {act : Request → State → State × Answer} {u : State} {r : Result} {fields : List Byte}
    (hs : sel { kind := k.code, tag := tag, body := body } = true) (hk : k.reads = true ∨ r ≠ .ok)
    (ha : act { kind := k.code, tag := tag, body := body } (s.renewFor l k) = (u, .reply r fields))
    (hl : ∀ m, u.chain m = s.chain m) :
    ∃ t, s.serve l k sel act = t ∧ t = { u with chainA := t.chainA, chainB := t.chainB } ∧ Answers s t l k tag r fields := by
  refine ⟨_, rfl, ?_⟩
  rw [h.serve sel act hs]
  dsimp only
  rw [ha]
  have e : (Answer.reply r fields).offers k = false := by
    rcases hk with hk | hk <;> simp [Answer.offers, hk]
  simp only [State.settle, e, Bool.false_eq_true, if_false]
  refine ⟨?_, Answers.of_startTx h.next (hl l) (hl (otherLink l))⟩
  rw [State.startTx_frame, State.conclude_frame]

/-- An event that appends nothing (08 R140). -/
theorem Grows.nothing {s t : State} (hj : s.journal.length ≤ Config.journalCapacity) (h : t.journal = s.journal) (h2 : t.nextSeq = s.nextSeq) : Grows s t [] := by
  refine ⟨?_, h2⟩
  have : s.journal.length - Config.journalCapacity = 0 := by omega
  simp [h, newest, recordsFrom, this]

/-- An event that appends one record (08 R142, R145). -/
theorem Grows.single (s : State) {u t : State} {k src p g} (hj : s.journal.length ≤ Config.journalCapacity)
  (e1 : u.journal = s.journal) (e2 : u.nextSeq = s.nextSeq) (e3 : u.time = s.time)
  (h1 : t.journal = (u.append k src p g).journal) (h2 : t.nextSeq = (u.append k src p g).nextSeq) (h3 : t.time = (u.append k src p g).time) :
  Grows s t [(k, src, p, g)] := by
  refine .append s t k src p g hj ?_ ?_ ?_
  · rw [h3]; simpa using e3
  · rw [h1]; exact State.append_journal_congr _ _ _ _ e1 e2 e3
  · rw [h2]; simp [e2]

/-- An append leaves receiver, reply queue and line of every chain alone (08 R145). -/
theorem State.append_chain (s : State) (k src p g) (l : Link) : ((s.append k src p g).chain l).rx = (s.chain l).rx ∧ ((s.append k src p g).chain l).places = (s.chain l).places ∧ ((s.append k src p g).chain l).line = (s.chain l).line := by
  have h : (s.append k src p g).chain l = s.makeRoom.chain l := by cases l <;> rfl
  rw [h]; unfold State.makeRoom State.dropOldest
  repeat' split
  all_goals cases l <;> exact ⟨rfl, rfl, rfl⟩

/-- What one append makes of a delivery, once it has made its offers (08 R145, 09 R155, R163). -/
theorem State.append_delivery (s t : State) (k src p g) (l : Link) (hj : s.journal.length ≤ Config.journalCapacity) :
    (((s.append k src p g).chain l).delivery).offerUpTo t.isHeld Config.deliveryWindow =
      s.reported t 1 (s.chain l).delivery := by
  have h : (s.append k src p g).chain l = s.makeRoom.chain l := by cases l <;> rfl
  rw [h]
  unfold State.reported State.makeRoom State.dropOldest
  by_cases hlt : s.journal.length < Config.journalCapacity
  · have e : s.journal.length + 1 - Config.journalCapacity = 0 := by omega
    simp [hlt, e]
  · have e : s.journal.length + 1 - Config.journalCapacity = 1 := by omega
    rw [if_neg hlt, e]
    cases hs : s.journal with
    | nil => simp [hs, Config.journalCapacity] at hlt
    | cons r rest => cases l <;> simp [State.chain]

/-- The statements' permission is the check that the walks and the requests make (05 R93). -/
theorem Permitted.iff_groupPermits (s : State) (g : Group) (src : Source) : Permitted s g src ↔ s.groupPermits g src = true := by
  unfold Permitted State.groupPermits
  cases (s.group g).definition with
  | none => simp
  | some d => cases src <;> simp [GroupDef.permits]

end Sys2Proof.Machine
end

