-- ==== Sys2Proof/Laws/Signals.lean ====
section
/-! SUPPORT. What the signals of qualification come to: the command that raises or clears a point, and a phase change at the end of
its event. -/

namespace Sys2Proof.Machine

/-- The command that raises a point hands RAISE on with the point qualified (02 R29, R32, R35). -/
theorem RaisesBy.exec_eq {s : State} {p d c} (hr : s.inReset = false) (hd : (s.point p).definition = some d)
  (hp : (s.point p).phase ≠ .outOfService) (h : RaisesBy s p d c) :
  exec c s = .next (((s.modifyPoint p fun x => x.raised p c).raise p d).finish) := by
  rcases h with ⟨rfl, hq, e, he, hl⟩ | ⟨rfl, hq, he, hl⟩ | ⟨rfl, h⟩ | ⟨rfl, hq, he, h0, hl, e, hf, hle⟩
  · simp [exec, execOnDelayExpiry, State.whenRunning, hr, State.onDelayDue, hd, he, hq, PointDef.onDelayMs, hl, State.becomeAbnormal, PointState.raised]
  · simp [exec, execAccumulationExpiry, State.whenRunning, hr, State.accumulationDue, hd, he, hq, PointDef.onDelayMs, hl, State.becomeAbnormal, PointState.raised]
  · simp [exec, execRestartRaise, State.whenRunning, hr, hd, h, State.becomeAbnormal, PointState.raised]
  · simp [exec, execFilteredTransition, State.whenRunning, hr, hd, h0, State.filterDue, hf, hle, hp, PointState.lineLevel, hl, State.qualify, State.takeAbnormal, hq, he, State.beginAbnormal, State.becomeAbnormal, PointState.raised]
    congr 2
    simp [State.modifyPoint, State.point]

/-- The command that clears a point hands CLEAR on with the point no longer qualified (02 R29, R35). -/
theorem ClearsBy.exec_eq {s : State} {p d c} (hr : s.inReset = false) (hd : (s.point p).definition = some d)
  (hp : (s.point p).phase ≠ .outOfService) (h : ClearsBy s p d c) :
  exec c s = .next (((s.modifyPoint p fun x => x.lowered p c).clear p d).finish) := by
  rcases h with ⟨rfl, hq, e, he, hl⟩ | ⟨rfl, hq, he, h0, hl, e, hf, hle⟩
  · simp [exec, execOffDelayExpiry, State.whenRunning, hr, State.offDelayDue, hd, he, hq, PointDef.offDelayMs, hl, State.becomeNormal, PointState.lowered]
  · simp [exec, execFilteredTransition, State.whenRunning, hr, hd, h0, State.filterDue, hf, hle, hp, PointState.lineLevel, hl, State.qualify, State.takeNormal, hq, he, State.becomeNormal, PointState.lowered]
    congr 2
    simp [State.modifyPoint, State.point]

/-- The offers and transmissions at the end of an event leave a mirrored phase change as it is (03 R46). -/
theorem Mirrors.finish {s t : State} {p ph timer item upd} (h : Mirrors s t p ph timer item upd) : Mirrors s t.finish p ph timer item upd where
  point := by simp [h.point]
  others := fun q hq => by simp [h.others q hq]
  list := by simp [h.list]
  journal := fun hj => ⟨by simpa using (h.journal hj).1, by simpa using (h.journal hj).2⟩
  latches := h.latches.of_output (by simp) (by simp) (by simp)
  chains := fun l => (h.chains l).trans (State.finish_undisturbed t l)
  frame := by have := h.frame; rw [this]; exact State.eq_of_fields (by simp)

/-- The offers and transmissions at the end of an event leave a closing phase change as it is (03 R46). -/
theorem Closes.finish {s t : State} {p ph timer item src} (h : Closes s t p ph timer item src) : Closes s t.finish p ph timer item src where
  point := by simp [h.point]
  others := fun q hq => by simp [h.others q hq]
  list := by simp [h.list]
  noEntry := fun e => ⟨by simp [(h.noEntry e).1], fun hj => ⟨by simpa using ((h.noEntry e).2 hj).1, by simpa using ((h.noEntry e).2 hj).2⟩⟩
  anEntry := fun e he => ⟨fun k hk => by simp [(h.anEntry e he).1 k hk], by simp [(h.anEntry e he).2.1], fun hj => ⟨by simpa using ((h.anEntry e he).2.2 hj).1, by simpa using ((h.anEntry e he).2.2 hj).2⟩⟩
  latches := h.latches.of_output (by simp) (by simp) (by simp)
  chains := fun l => (h.chains l).trans (State.finish_undisturbed t l)
  frame := by have := h.frame; rw [this]; exact State.eq_of_fields (by simp)

/-- A mirrored phase change after a change of the same point within the event, as the whole event does it (03 R46). -/
theorem Mirrors.after {s t : State} {p ph timer k src upd} {f : PointState → PointState} (hf : (f (s.point p)).definition = (s.point p).definition)
   (h : Mirrors (s.modifyPoint p f) t p ph timer (k, src, some p, (s.modifyPoint p f).groupOf p) upd) :
   t.point p = (f (s.point p)).moved ph timer (f (s.point p)).shownMark ∧ OnlyPoint s t p ∧
   t.alarmList = mirrored s.alarmList p (fun e => upd { e with phase := ph }) ∧
   (s.journal.length ≤ Config.journalCapacity → Grows s t [(k, src, some p, s.groupOf p)]) ∧
   Latched s t (s.audible p && decide (ph = .alert)) (s.audible p && decide (ph = .ringback)) ∧
   (∀ l, Undisturbed (s.chain l) (t.chain l)) ∧
   t = { s with points := t.points, alarmList := t.alarmList, journal := t.journal, nextSeq := t.nextSeq, output := t.output, chainA := t.chainA, chainB := t.chainB } := by
  have hd := SameDefinitions.modifyPoint s p f hf
  refine ⟨by simp [h.point], fun q hq => by rw [h.others q hq]; simp [State.point_modifyPoint, hq], h.list, fun hj => ?_, ?_, fun l => h.chains l, h.frame⟩
  · have := h.journal hj; rw [hd.groupOf] at this; exact this
  · have := h.latches; rw [hd.audible] at this; exact this

/-- A closing phase change after a change of the same point within the event, as the whole event does it (03 R46). -/
theorem Closes.after {s t : State} {p ph timer k src src'} {f : PointState → PointState} (hf : (f (s.point p)).definition = (s.point p).definition)
   (h : Closes (s.modifyPoint p f) t p ph timer (k, src, some p, (s.modifyPoint p f).groupOf p) src') :
   t.point p = (f (s.point p)).moved ph timer false ∧ OnlyPoint s t p ∧
   t.alarmList = closed s.alarmList p ∧
   (s.entry? p = none → t.groups = s.groups ∧ (s.journal.length ≤ Config.journalCapacity → Grows s t [(k, src, some p, s.groupOf p)])) ∧
   (∀ e, s.entry? p = some e → OnlyGroup s t e.group ∧
    t.group e.group = { s.group e.group with firstOut := if e.firstOut then .none else (s.group e.group).firstOut } ∧
    (s.journal.length ≤ Config.journalCapacity → Grows s t ((k, src, some p, s.groupOf p) :: goneItems e src'))) ∧
   Latched s t (s.audible p && decide (ph = .alert)) (s.audible p && decide (ph = .ringback)) ∧
   (∀ l, Undisturbed (s.chain l) (t.chain l)) ∧
   t = { s with points := t.points, groups := t.groups, alarmList := t.alarmList, journal := t.journal, nextSeq := t.nextSeq, output := t.output, chainA := t.chainA, chainB := t.chainB } := by
  have hd := SameDefinitions.modifyPoint s p f hf
  refine ⟨by simp [h.point], fun q hq => by rw [h.others q hq]; simp [State.point_modifyPoint, hq], h.list, fun he => ?_, fun e he => ?_, ?_, fun l => h.chains l, h.frame⟩
  · have := h.noEntry he; rw [hd.groupOf] at this; exact this
  · have := h.anEntry e he; rw [hd.groupOf] at this; exact this
  · have := h.latches; rw [hd.audible] at this; exact this

/-- The end of an event that changed points alone. -/
theorem State.finish_points_only {s : State} {u : State} (h : u = { s with points := u.points }) : u.finish = { s with points := u.finish.points, chainA := u.finish.chainA, chainB := u.finish.chainB } := by
  rw [State.finish_frame u, h]

end Sys2Proof.Machine
end

