-- ==== Sys2Proof/WellFormed.lean ====
section
/-! DEFINITION. Which commands are well formed. Point, group, link and line operands are bounded by their types; the two
checks left are that an action's slot belongs to an operator source and that a frame's body fits LEN. -/

namespace Sys2Proof

/-- The sources that have an action slot (05 R88): PART has none. -/
def Source.isOperator : Source → Bool
  | .panel => true
  | .linkA => true
  | .linkB => true
  | .part => false

/-- A command names only what the spec gives: an operator source for a walk event (05 R88), a body of at most 240 bytes
for a CONFIRM frame (10 R169). -/
def Instr.wellFormed : Instr → Bool
  | .ackWalkEvent src => src.isOperator
  | .resetGroupExamine src => src.isOperator
  | .resetMemberEvent src => src.isOperator
  | .firstOutClearing src => src.isOperator
  | .confirm _ body => decide (body.length ≤ Config.maxBody)
  | .coldReset _ _ _ => true
  | .inputLineChange _ _ => true
  | .filteredTransition _ => true
  | .onDelayExpiry _ => true
  | .offDelayExpiry _ => true
  | .accumulationExpiry _ => true
  | .forgetTimerExpiry _ => true
  | .restartRaise _ => true
  | .realertExpiry _ => true
  | .chatterWindowExpiry _ => true
  | .restoreTimerExpiry _ => true
  | .patternCycleWrap => true
  | .dayRollover => true
  | .panelLineChange _ _ => true
  | .panelFilteredTransition _ => true
  | .panelPressBegin => true
  | .lampTestHostExpiry => true
  | .leaseExpiry => true
  | .retransmissionExpiry _ => true
  | .byteArrival _ _ _ => true
  | .interByteTimeout _ => true
  | .transmitEnd _ => true
  | .hello _ => true
  | .bye _ => true
  | .unknownKindRequest _ => true
  | .claim _ => true
  | .release _ => true
  | .restart _ => true
  | .readStatus _ => true
  | .defineGroup _ => true
  | .undefineGroup _ => true
  | .definePoint _ => true
  | .undefinePoint _ => true
  | .setServiceOut _ => true
  | .setServiceIn _ => true
  | .restore _ => true
  | .setTime _ => true
  | .ack _ => true
  | .reset _ => true
  | .silence _ => true
  | .lampTest _ => true
  | .readPoint _ => true
  | .readGroup _ => true
  | .readList _ => true
  | .readJournal _ => true
  | .subscribe _ => true
  | .unsubscribe _ => true
  | .resetAsserted _ => true

end Sys2Proof
end

