-- ==== Sys2Proof/Tests/Slice0.lean ====
section
/-! SUPPORT. Tests whose expected values come from the spec's tables and worked examples, and the witnesses: for each statement
with hypotheses, a state and operands that meet them. -/

namespace Sys2Proof.Tests

open Sys2Proof.Machine

set_option Elab.async false

/-! ### Small states -/

/-- The state a command answers. -/
def run (i : Instr) (s : State) : Option State :=
  match exec i s with
  | .next t => some t
  | .fault _ => none
  | .refused _ => none

/-- A MANUAL group with first-out, audible, every source permitted, re-alert interval 1 minute. -/
def manual : GroupDef :=
  { sequence := .manual, firstOutEnabled := true, audible := true, permitsPanel := true, permitsA := true,
    permitsB := true, realertMinutes := 1 }

/-- A point of group 0: NO, filter 20 ms, on-delay 30 ms, off-delay 40 ms. -/
def plain : PointDef :=
  { group := 0, sense := .normallyOpen, filterMs := 20, onDelay := 3, offDelay := 4, mode := .continuous,
    chatterLimit := 0, chatterWindow := 0, label := [] }

/-- A point with both delays 0. -/
def prompt : PointDef := { plain with onDelay := 0, offDelay := 0 }

/-- Point 38 of Table 7-1: chatter limit 3, window 10 s. -/
def chattering : PointDef := { plain with chatterLimit := 3, chatterWindow := 10 }

/-- A point with a definition, in NORMAL. -/
def inService (d : PointDef) : PointState :=
  { PointState.cold with definition := some d, phase := .normal, shownPhase := .normal }

/-- Group 0 and point 16 as given, the rest as after reset. -/
def setup (g : GroupDef) (x : PointState) : State :=
  (State.reset.modifyGroup 0 fun k => { k with definition := some g }).modifyPoint 16 fun _ => x

/-- Point 16's entry, unmarked. -/
def entry16 (ph : Phase) : Entry :=
  { point := 16, group := 0, phase := ph, firstOut := false, raiseCount := 1, openSeq := 1, openTime := .cold, ackedBy := none,
    ackedAt := none }

/-- The same state with point 16's entry in the list. -/
def listed (s : State) (e : Entry) : State := { s with alarmList := [e] }

/-- A point qualified abnormal in a phase. -/
def standing (d : PointDef) (ph : Phase) : PointState :=
  { inService d with phase := ph, shownPhase := ph, qualified := .abnormalQ }

/-- A state with Link A's session open, Link A the holder with 1 ms of lease left, and one request waiting on Link A. -/
def askOf (s : State) (k : ReqKind) (body : List Byte) : State :=
  { s with
    session := { s.session with openA := true, holder := some .a, lease := some 1 },
    chainA := { Chain.cold with places := [.waiting k.code 7 body] } }

/-- The same from reset. -/
def ask (k : ReqKind) (body : List Byte) : State := askOf State.reset k body

/-- The oldest reply of Link A: its result and fields. -/
def replyA (s : State) : Option (Result × List Byte) :=
  (s.chainA.places.findSome? fun
    | .onLine r => some (r.result, r.fields)
    | .ready r => some (r.result, r.fields)
    | .waiting _ _ _ => none
    | .inProgress _ _ => none)

/-- The kinds of the records appended after START. -/
def kinds (s : State) : List RecordKind := (s.journal.drop 1).map (·.kind)

/-- An action in a slot. -/
def action (k : ActionKind) (src : Source) (pos : WalkPos) : Action :=
  { kind := k, source := src, scope := .all, pos := pos, pointsChanged := 0, marksCleared := 0, tag := some 7 }

/-- A state with an action in a slot. -/
def walking (s : State) (src : Source) (a : Action) : State := s.modifyOperator fun u => u.setSlot src (some a)

/-- A LIVE delivery on Link A. -/
def liveA (s : State) (confirmed next : Seq) (retry : Nat) (timer : Option Nat) : State :=
  { s with
    session := { s.session with openA := true },
    chainA := { s.chainA with
      delivery := { state := .live, confirmed := some confirmed, next := some next, retry := retry, timer := timer, offers := [] } } }

/-- A report on Link A's line. -/
def busyA (s : State) : State := { s with chainA := { s.chainA with line := some { bytes := List.replicate 45 0, elapsed := 0 } } }

/-- A full journal from a number on (08, Example). -/
def fullFrom (n : Seq) : State :=
  { State.reset with
    journal := recordsFrom n .cold (List.replicate 1024 (.lampTestOn, .part, none, none)), nextSeq := seqAfter 1024 n }

/-! ### Well-formedness -/

theorem test_ackWalk_of_part_is_ill_formed : (Instr.ackWalkEvent .part).wellFormed = false := by decide

theorem test_examine_of_part_is_ill_formed : (Instr.resetGroupExamine .part).wellFormed = false := by decide

theorem test_member_of_part_is_ill_formed : (Instr.resetMemberEvent .part).wellFormed = false := by decide

theorem test_clearing_of_part_is_ill_formed : (Instr.firstOutClearing .part).wellFormed = false := by decide

theorem test_confirm_of_241_bytes_is_ill_formed : (Instr.confirm .a (List.replicate 241 0)).wellFormed = false := by
  decide +kernel

theorem test_confirm_of_240_bytes_is_well_formed : (Instr.confirm .a (List.replicate 240 0)).wellFormed = true := by
  decide +kernel

/-! ### Layouts (12) -/

/-- The record of 12, Example: record 149, ACKED of point 16 from PANEL into WAIT_RESET in group 2. -/
def record149 : Record :=
  { seq := 149, stamp := { day := 12, ms := 43200000, isSet := true }, kind := .acked .waitReset, source := .panel,
    point := some 16, group := some 2 }

/-- Link B's delivery of 12, Example. -/
def delivery148 : Delivery :=
  { state := .live, confirmed := some 148, next := some 152, retry := 0, timer := some 1, offers := [] }

/-- The journal of 12, Example: 1 to 151. -/
def journal151 : State :=
  { State.reset with journal := recordsFrom 1 .cold (List.replicate 151 (.lampTestOn, .part, none, none)), nextSeq := 152 }

theorem test_report_frame_of_the_example :
    (journal151.reportFrame delivery148 { seq := 149, isRepeat := false } record149).take 43 =
      [0xA5, 0x27, 0x81, 0x00, 0x00, 0x00, 0x00, 0x00, 0x94, 0x00, 0x00, 0x00, 0x98, 0x00, 0x00, 0x00, 0x01, 0x00, 0x00,
        0x00, 0x97, 0x00, 0x00, 0x00, 0x95, 0x00, 0x0C, 0x02, 0x93, 0x2E, 0x00, 0x01, 0x04, 0x00, 0x10, 0x02, 0x01, 0x06,
        0x00, 0x00, 0x00, 0x00, 0x00] := by decide +kernel

theorem test_crc_of_the_check_string :
    crcOf [0x31, 0x32, 0x33, 0x34, 0x35, 0x36, 0x37, 0x38, 0x39] = 0x29B1 := by decide +kernel

/-- TIME_SET carries the previous flag in the top bit of the millisecond (12 R192). -/
theorem test_timeSet_detail :
    (RecordKind.timeSet { day := 0x0102, ms := 0x03040506, isSet := true }).detail =
      [0x01, 0x02, 0x83, 0x04, 0x05, 0x06] := by decide

/-- A DEFINE POINT body read by the offsets of Table 12-4. -/
theorem test_definePoint_arguments :
    pointArgs [0x2F, 0x07, 0x01, 0xFA, 0x17, 0x70, 0x00, 0x01, 0x01, 0x14, 0x0E, 0x10, 0x02, 0x20, 0x7E] =
      some (47, { group := 7, sense := .normallyClosed, filterMs := 250, onDelay := 6000, offDelay := 1,
                  mode := .accumulating, chatterLimit := 20, chatterWindow := 3600, label := [0x20, 0x7E] }) := by decide

/-- A DEFINE GROUP body read by the offsets of Table 12-4. -/
theorem test_defineGroup_arguments :
    groupArgs [0x07, 0x02, 0x01, 0x00, 0x05, 0xF0] =
      some (7, { sequence := .ringback, firstOutEnabled := true, audible := false, permitsPanel := true, permitsA := false,
                 permitsB := true, realertMinutes := 240 }) := by decide

/-! ### The input unit and qualification (02) -/

/-- Table 2-2 at 0 ms: a run begins. -/
theorem test_line_change_begins_a_run :
    (run (.inputLineChange 16 true) (setup manual (inService plain))).map (fun t => (t.point 16).filterRun) =
      some (some 0) := by decide +kernel

/-- Table 2-2 at 8 ms: the run is abandoned. -/
theorem test_line_change_back_abandons :
    (run (.inputLineChange 16 false) (setup manual { inService plain with line := true, filterRun := some 8 })).map
      (fun t => (t.point 16).filterRun) = some none := by decide +kernel

/-- Table 2-2 at 35 ms: the run reaches 20 and the filtered level becomes abnormal. -/
theorem test_filtered_transition :
    (run (.filteredTransition 16) (setup manual { inService plain with line := true, filterRun := some 20 })).map
      (fun t => ((t.point 16).filtered, (t.point 16).delay)) = some (.abnormal, .onDelay 0) := by decide +kernel

/-- Point 21 of Table 2-5, in a qualification state. -/
def point21 (filtered : Level) (line : Bool) (delay : Delay) (accumulated : Nat) : PointState :=
  { inService { plain with mode := .accumulating, onDelay := 300, offDelay := 100 } with
    line := line, filtered := filtered, filterRun := some 20, delay := delay, accumulated := accumulated }

/-- Table 2-5 at 1200 ms: the accumulated time is kept and the forget timer starts. -/
theorem test_accumulation_pauses :
    (run (.filteredTransition 16) (setup manual (point21 .abnormal false .accumulating 1200))).map
      (fun t => ((t.point 16).delay, (t.point 16).accumulated)) = some (.forget 0, 1200) := by decide +kernel

/-- 02 R34, the transition taken first: an accumulation that had reached the on-delay pauses just short of it. -/
theorem test_accumulation_pauses_just_short :
    (run (.filteredTransition 16) (setup manual (point21 .abnormal false .accumulating 3000))).map
      (fun t => ((t.point 16).delay, (t.point 16).accumulated)) = some (.forget 0, 2999) := by decide +kernel

/-- Table 2-5 at 3900 ms: the accumulated time is forgotten. -/
theorem test_forget_timer :
    (run (.forgetTimerExpiry 16) (setup manual (point21 .normal false (.forget 1000) 2300))).map
      (fun t => ((t.point 16).delay, (t.point 16).accumulated)) = some (.idle, 0) := by decide +kernel

/-- Table 2-5 at 7900 ms: ABNORMAL_Q, and RAISE. -/
theorem test_accumulation_expiry :
    (run (.accumulationExpiry 16) (setup manual (point21 .abnormal true .accumulating 3000))).map
      (fun t => ((t.point 16).qualified, (t.point 16).accumulated, (t.point 16).phase)) =
      some (.abnormalQ, 0, .alert) := by decide +kernel

/-- Table 3-6, event 1: the first point of a group in alarm is marked, and the horn sounds. -/
theorem test_on_delay_expiry_raises :
    (run (.onDelayExpiry 16) (setup manual { inService plain with delay := .onDelay 30 })).map
      (fun t => (kinds t, (t.group 0).firstOut, t.output.horn, t.common)) =
      some ([.raised .alert 1 true], some 16, true, true) := by decide +kernel

/-- Table 3-6, event 4: a CLEAR in ALERT gives CLEARED_UNACKED. -/
theorem test_off_delay_expiry_clears :
    (run (.offDelayExpiry 16)
      (listed (setup manual { standing plain .alert with delay := .offDelay 40 }) (entry16 .alert))).map
      (fun t => (kinds t, (t.point 16).phase)) = some ([.cleared .clearedUnacked], .clearedUnacked) := by decide +kernel

/-- Table 3-6, event 7: a re-raise keeps the entry and counts 2. -/
theorem test_reraise :
    (run (.onDelayExpiry 16) (listed (setup manual { inService plain with phase := .waitReset, delay := .onDelay 30 })
      (entry16 .waitReset))).map (fun t => (kinds t, t.alarmList.map (·.raiseCount))) =
      some ([.raised .alert 2 false], [2]) := by decide +kernel

theorem test_restart_raise :
    (run (.restartRaise 16) (setup manual { inService prompt with filtered := .abnormal, restartRaise := true })).map
      (fun t => ((t.point 16).phase, (t.point 16).restartRaise)) = some (.alert, false) := by decide +kernel

theorem test_realert_expiry :
    (run (.realertExpiry 16) (listed (setup manual { standing plain .acked with realert := some 0 }) (entry16 .acked))).map
      (fun t => ((t.point 16).phase, t.output.horn)) = some (.alert, true) := by decide +kernel

/-! ### Chatter (07) -/

/-- Table 7-1 at 2.3 s: the third raise of the window suppresses the point. -/
theorem test_chatter_suppresses :
    (run (.onDelayExpiry 16) (listed (setup manual
      { inService chattering with
        phase := .clearedUnacked, delay := .onDelay 30, raiseCount := 2, window := some 7700 })
      (entry16 .clearedUnacked))).map
      (fun t => (kinds t, (t.point 16).phase, (t.point 16).raiseCount, (t.point 16).window, t.alarmList)) =
      some ([.suppressed .suppressed], .suppressed, 0, none, []) := by decide +kernel

/-- Table 7-1 at 2.9 s: a CLEAR of a suppressed point starts its restore timer. -/
theorem test_suppressed_clear_starts_restore :
    (run (.offDelayExpiry 16) (setup manual { standing chattering .suppressed with delay := .offDelay 40 })).map
      (fun t => ((t.point 16).restore, kinds t)) = some (some 10000, []) := by decide +kernel

theorem test_chatter_window_expiry :
    (run (.chatterWindowExpiry 16) (setup manual { inService chattering with raiseCount := 2, window := some 0 })).map
      (fun t => ((t.point 16).raiseCount, (t.point 16).window)) = some (0, none) := by decide +kernel

/-- Table 7-1 at 15.6 s. -/
theorem test_restore_timer_expiry :
    (run (.restoreTimerExpiry 16) (setup manual
      { inService chattering with phase := .suppressed, restore := some 0 })).map
      (fun t => ((t.point 16).phase, kinds t)) = some (.normal, [.restored .normal .auto]) := by decide +kernel

/-! ### Counters (06, 08) -/

theorem test_pattern_wrap :
    (run .patternCycleWrap (State.reset.modifyOutput fun u => { u with cycle := 999 })).map (·.output.cycle) = some 0 := by
  decide +kernel

theorem test_day_rollover :
    (run .dayRollover { State.reset with time := { day := 65535, ms := 86399999, isSet := true } }).map (·.time) =
      some { day := 0, ms := 0, isSet := true } := by decide +kernel

theorem test_a_due_step_is_taken_before_time_passes :
    (match step (setup manual { inService plain with delay := .onDelay 30 }) with
      | .next t => t.pending
      | .fault _ => []
      | .refused _ => []) = [.onDelayExpiry 16] := by decide +kernel

/-! ### The panel (05, 06) -/

theorem test_panel_line_change :
    (run (.panelLineChange .ack true) State.reset).map (·.operator.ack.run) = some (some 0) := by decide +kernel

/-- A press joins the waiting list while the slot is occupied (05 R92). -/
theorem test_press_waits :
    (run (.panelFilteredTransition .ack) (walking
      (State.reset.modifyOperator fun u => { u with ack := { line := true, filtered := false, run := some 20 } })
      .panel (action .reset .panel (.examine 0)))).map (·.operator.waiting) = some [.ack] := by decide +kernel

theorem test_press_begin :
    (run .panelPressBegin (State.reset.modifyOperator fun u => { u with waiting := [.reset, .ack] })).map
      (fun t => (t.operator.waiting, t.operator.slotPanel.map (·.pos))) = some ([.ack], some (.examine 0)) := by
  decide +kernel

theorem test_lamp_test_host_expiry :
    (run .lampTestHostExpiry (State.reset.modifyOutput fun u => { u with hostTimer := some 1 })).map
      (fun t => (kinds t, t.output.hostTimer)) = some ([.lampTestOff], none) := by decide +kernel

/-! ### Walks (05) -/

/-- Table 5-4, event 5: a point in CLEARED_UNACKED of a MANUAL group goes to WAIT_RESET, and the horn stops. -/
theorem test_ack_walk :
    (run (.ackWalkEvent .panel) (walking (listed (setup manual { inService plain with phase := .clearedUnacked })
      (entry16 .clearedUnacked)) .panel (action .ack .panel (.ackAt 16)))).map
      (fun t => (kinds t, t.operator.slotPanel.map (·.pointsChanged))) = some ([.acked .waitReset], some 1) := by
  decide +kernel

theorem test_reset_group_examine :
    (run (.resetGroupExamine .linkB) (walking (setup manual (inService plain)) .linkB (action .reset .linkB (.examine 0)))).map
      (fun t => t.operator.slotB.map (·.pos)) = some (some (.member 0 0)) := by decide +kernel

/-- Table 3-6, event 8, record 150. -/
theorem test_reset_member :
    (run (.resetMemberEvent .linkB) (walking (listed (setup manual { inService plain with phase := .waitReset })
      (entry16 .waitReset)) .linkB (action .reset .linkB (.member 0 16)))).map
      (fun t => (kinds t, (t.point 16).phase, t.alarmList)) = some ([.resetPoint .normal], .normal, []) := by decide +kernel

/-- 01 R9: a member event uses the operator sources as they stand when it is taken. -/
theorem test_reset_member_not_permitted :
    (run (.resetMemberEvent .linkB) (walking (listed (setup { manual with permitsB := false }
      { inService plain with phase := .waitReset }) (entry16 .waitReset)) .linkB (action .reset .linkB (.member 0 16)))).map
      (fun t => (kinds t, (t.point 16).phase, t.operator.slotB.map (·.pos))) =
      some ([], .waitReset, some (.member 0 17)) := by decide +kernel

/-- Table 3-6, event 8, record 151: the mark goes, the entry stays. -/
theorem test_first_out_clearing :
    (run (.firstOutClearing .linkB) (walking (listed
      ((setup manual { standing plain .acked with shownMark := true }).modifyGroup 0 fun g => { g with firstOut := some 16 })
      { entry16 .acked with firstOut := true }) .linkB (action .reset .linkB (.clearing 0)))).map
      (fun t => (kinds t, (t.group 0).firstOut, t.alarmList.map (·.firstOut))) =
      some ([.firstOutCleared .reset], none, [false]) := by decide +kernel

/-! ### Requests -/

theorem test_hello :
    (run (.hello .a) (ask .hello [])).map (fun t => (kinds t, (replyA t).map (·.2.length))) =
      some ([.authority .dropped .a, .session .closedHello .a, .session .opened .a], some 18) := by decide +kernel

theorem test_bye :
    (run (.bye .a) (ask .bye [])).map (fun t => (kinds t, t.session.holder, t.session.openA)) =
      some ([.authority .dropped .a, .session .closedBye .a], none, false) := by decide +kernel

theorem test_claim_renews :
    (run (.claim .a) (ask .claim [])).map replyA = some (some (.ok, [0x01, 0x00, 0x00, 0x75, 0x30])) := by decide +kernel

theorem test_release :
    (run (.release .a) (ask .release [])).map replyA = some (some (.ok, [0xFF])) := by decide +kernel

theorem test_lease_expiry :
    (run .leaseExpiry { State.reset with session := { State.reset.session with openB := true, holder := some .b, lease := some 0 } }).map
      kinds = some [.authority .expired .b] := by decide +kernel

theorem test_restart_is_pending :
    (run (.restart .a) (ask .restart [])).map (fun t => (t.session.restartPending, kinds t)) = some (some .a, []) := by
  decide +kernel

theorem test_read_status_length :
    (run (.readStatus .a) (ask .readStatus [])).map (fun t => (replyA t).map (·.2.length)) = some (some 64) := by
  decide +kernel

theorem test_unknown_kind :
    (run (.unknownKindRequest .a) { ask .bye [] with chainA := { Chain.cold with places := [.waiting 0x99 7 []] } }).map
      replyA = some (some (.unknownKind, [])) := by decide +kernel

theorem test_define_group :
    (run (.defineGroup .a) (ask .defineGroup [0, 1, 1, 1, 7, 1])).map (fun t => ((t.group 0).definition, replyA t)) =
      some (some manual, some (.ok, [0, 0, 0, 1])) := by decide +kernel

theorem test_undefine_group_with_a_member :
    (run (.undefineGroup .a) (askOf (setup manual (inService plain)) .undefineGroup [0])).map replyA =
      some (some (.wrongState, [0, 0, 0, 0])) := by decide +kernel

theorem test_define_point :
    (run (.definePoint .a) (askOf (setup manual PointState.cold) .definePoint [16, 0, 0, 20, 0, 3, 0, 4, 0, 0, 0, 0, 0])).map
      (fun t => ((t.point 16).phase, (t.point 16).definition)) = some (.outOfService, some plain) := by decide +kernel

theorem test_undefine_point :
    (run (.undefinePoint .a) (askOf (setup manual { inService plain with phase := .outOfService }) .undefinePoint [16])).map
      (fun t => ((t.point 16).phase, (t.point 16).definition)) = some (.undefined, none) := by decide +kernel

theorem test_service_out :
    (run (.setServiceOut .a) (askOf (listed (setup manual (standing plain .alert)) (entry16 .alert)) .setService [16, 0])).map
      (fun t => (kinds t, t.alarmList)) = some ([.serviceOut .outOfService], []) := by decide +kernel

/-- With an on-delay of 0 an abnormal level raises at once, after SERVICE_IN (01 R16). -/
theorem test_service_in_raises :
    (run (.setServiceIn .a) (askOf (setup manual { inService prompt with phase := .outOfService, filtered := .abnormal })
      .setService [16, 1])).map kinds = some [.serviceIn .normal, .raised .alert 1 true] := by decide +kernel

/-- 07, Example: RESTORE of a point that is ABNORMAL_Q gives RESTORED, then RAISED. -/
theorem test_restore_of_an_abnormal_point :
    (run (.restore .a) (askOf (setup manual (standing chattering .suppressed)) .restore [16])).map
      (fun t => (kinds t, replyA t)) = some ([.restored .normal .request, .raised .alert 1 true], some (.ok, [0x03])) := by
  decide +kernel

theorem test_set_time :
    (run (.setTime .a) (ask .setTime [0x00, 0x0C, 0x02, 0x93, 0x2E, 0x00])).map (·.time) =
      some { day := 12, ms := 43200000, isSet := true } := by decide +kernel

theorem test_ack_begins :
    (run (.ack .a) (ask .ack [2, 0])).map (fun t => (t.operator.slotA.map (·.pos), t.chainA.places)) =
      some (some (.ackAt 0), [.inProgress 0x20 7]) := by decide +kernel

theorem test_reset_of_an_undefined_group :
    (run (.reset .a) (ask .reset [1, 3])).map replyA = some (some (.notDefined, [0, 0])) := by decide +kernel

theorem test_silence :
    (run (.silence .a) (State.modifyOutput (ask .silence []) fun u => { u with horn := true, tone := true })).map
      (fun t => (kinds t, replyA t)) = some ([.silenced true true], some (.ok, [0x03])) := by decide +kernel

theorem test_lamp_test :
    (run (.lampTest .a) (ask .lampTest [60])).map replyA = some (some (.ok, [0x01, 0x00, 0x00, 0xEA, 0x60])) := by
  decide +kernel

/-- An undefined point (12 R191): FFh but for the label length, the raise count and what the point's number gives. -/
theorem test_read_point_undefined :
    State.reset.pointFields 47 =
      [0x2F, 0x00, 0x00] ++ List.replicate 11 0xFF ++ [0x00] ++ List.replicate 12 0xFF ++ [0x00] ++ List.replicate 12 0xFF ++
        [0x00, 0x00, 0x00, 0x00, 0x00] := by decide +kernel

theorem test_read_group :
    (run (.readGroup .a) (askOf (setup manual (inService plain)) .readGroup [0])).map replyA =
      some (some (.ok, [0, 1, 1, 1, 1, 7, 1, 0xFF, 0, 0, 0, 0, 1, 1, 16])) := by decide +kernel

theorem test_read_list :
    (run (.readList .a) (askOf (listed (setup manual (standing plain .alert)) (entry16 .alert)) .readList [0, 8])).map
      (fun t => (replyA t).map (·.2.take 10)) = some (some [1, 0, 1, 0, 0, 0, 1, 16, 0, 3]) := by decide +kernel

/-- Table 8-4, the four positions against 4,294,967,000 to 728. -/
theorem test_journal_positions :
    (fullFrom 4294967000).position 4294967100 = .held ∧ (fullFrom 4294967000).position 725 = .held ∧
      (fullFrom 4294967000).position 729 = .next ∧ (fullFrom 4294967000).position 4294966500 = .behind ∧
      (fullFrom 4294967000).position 730 = .ahead ∧ (fullFrom 4294967000).position 2000000000 = .ahead := by decide +kernel

/-- Table 8-4: a start behind gives TRUNCATED and the oldest records. -/
theorem test_read_journal_behind :
    (run (.readJournal .a) (ask .readJournal [0, 0, 0, 1, 8])).map (fun t => (replyA t).map (·.2.take 10)) =
      some (some [0, 0, 0, 0, 1, 0, 0, 0, 1, 1]) := by decide +kernel

/-! ### Report delivery (09) -/

/-- Table 9-4, event 1: four records are offered, next stands at 2005. -/
theorem test_subscribe :
    (run (.subscribe .a) (askOf (fullFrom 2001) .subscribe [0x00, 0x00, 0x07, 0xD1])).map
      (fun t => (t.chainA.delivery.confirmed, t.chainA.delivery.next, t.chainA.delivery.offers.map (·.seq))) =
      some (some 2000, some 2005, [2001, 2002, 2003, 2004]) := by decide +kernel

/-- Table 9-4, event 3: the expiry offers the window again as repeats, and the first begins. -/
theorem test_retransmission_expiry :
    (run (.retransmissionExpiry .a) (liveA (fullFrom 2001) 2000 2005 0 (some 0))).map
      (fun t => (t.chainA.delivery.retry, t.chainA.delivery.offers)) =
      some (1, [{ seq := 2002, isRepeat := true }, { seq := 2003, isRepeat := true }, { seq := 2004, isRepeat := true }]) := by
  decide +kernel

/-- Table 9-4, event 7: a full journal drops 2001, and the delivery moves past it. -/
theorem test_drop_moves_the_delivery :
    ((busyA (liveA (fullFrom 2001) 2000 2005 2 (some 491))).appendBare .lampTestOn .part).offer.chainA.delivery.confirmed =
        some 2001 ∧
      ((busyA (liveA (fullFrom 2001) 2000 2005 2 (some 491))).appendBare .lampTestOn .part).offer.chainA.delivery.next =
        some 2006 := by decide +kernel

/-- Table 9-4, event 8: CONFIRM 2004 opens the window, and 2006 begins. -/
theorem test_confirm :
    (run (.confirm .a [0x00, 0x00, 0x07, 0xD4]) (liveA (fullFrom 2002) 2001 2006 2 (some 460))).map
      (fun t => (t.chainA.delivery.confirmed, t.chainA.delivery.next, t.chainA.delivery.retry,
        t.chainA.delivery.offers.map (·.seq))) = some (some 2004, some 2009, 0, [2007, 2008]) := by decide +kernel

theorem test_unsubscribe :
    (run (.unsubscribe .a) (liveA (ask .unsubscribe []) 1 2 0 none)).map (fun t => (t.chainA.delivery.state, replyA t)) =
      some (.off, some (.ok, [0, 0, 0, 1])) := by decide +kernel

/-! ### Links (10, 11) -/

/-- A frame byte by byte: SYNC, LEN 0, KIND 01h, TAG 11h, and its CHECK; the last byte queues the request. -/
theorem test_byte_arrival_completes_a_frame :
    (run (.byteArrival .a (BitVec.ofNat 8 (crcOf [0, 1, 0x11]).toNat) true)
      { State.reset with chainA := { Chain.cold with
          rx := { state := .check, crc := crcOf [0, 1, 0x11], due := 0,
                  frame := [0, 1, 0x11, BitVec.ofNat 8 ((crcOf [0, 1, 0x11]).toNat / 256)], timer := some 0 } } }).map
      (fun t => t.chainA.places) = some [.waiting 0x01 0x11 []] := by decide +kernel

theorem test_inter_byte_timeout :
    (run (.interByteTimeout .b)
      { State.reset with chainB := { Chain.cold with
          rx := { state := .body, crc := 0, due := 3, frame := [5, 1, 2], timer := some 50 } } }).map
      (fun t => t.chainB.rx.state) = some .hunt := by decide +kernel

/-- Table 10-6 at 47 ms: the report ends and the oldest reply begins. -/
theorem test_transmit_end :
    (run (.transmitEnd .a) { busyA State.reset with chainA := { (busyA State.reset).chainA with
        places := [.ready { kind := 0x30, tag := 0x11, result := .ok, fields := [] },
                   .ready { kind := 0x30, tag := 0x12, result := .ok, fields := [] }] } }).map
      (fun t => t.chainA.places) =
      some [.onLine { kind := 0x30, tag := 0x11, result := .ok, fields := [] },
            .ready { kind := 0x30, tag := 0x12, result := .ok, fields := [] }] := by decide +kernel

/-! ### Resets (11, 06) -/

/-- A TEST line held through cold reset (06 R122). -/
theorem test_cold_reset :
    (run (.coldReset .line true false)
      (State.reset.modifyOperator fun u => { u with test := { line := true, filtered := true, run := none } })).map
      (fun t => (t.journal.map (·.kind), t.rate)) = some ([.start .line, .lampTestOn], .b57600) := by decide +kernel

theorem test_reset_asserted_darkens_the_outputs :
    (run (.resetAsserted .line) (State.reset.modifyOutput fun u => { u with testLevel := true })).map
      (fun t => (t.lampOn 0, t.inReset)) = some (false, true) := by decide +kernel

/-! ### Witnesses: the hypotheses of each statement, met -/

/-- The conditions under which a request is accepted, from facts that can be decided. -/
theorem accepts {s : State} {l : Link} {k : ReqKind} {tag : Byte} {body : List Byte}
    (h : s.inReset = false ∧ (s.chain l).nextRequest = some { kind := k.code, tag := tag, body := body } ∧
      (k ≠ .hello → s.session.isOpen l = true) ∧ k.formatOk body = true ∧
      (k.needsAuthority = true → s.session.holder = some l) ∧ s.journal.length ≤ Config.journalCapacity) :
    Accepts s l k tag body :=
  ⟨h.1, h.2.1, h.2.2.1, h.2.2.2.1, h.2.2.2.2.1, h.2.2.2.2.2⟩

/-- A state with another holder and lease. -/
def heldBy (s : State) (h : Option Link) (n : Option Nat) : State :=
  { s with session := { s.session with holder := h, lease := n } }

/-- Running, with room in the journal. -/
def ready (s : State) : Bool := decide (s.inReset = false) && decide (s.journal.length ≤ Config.journalCapacity)

theorem witness_StepRunsFrontCommand :
    ({ State.reset with pending := [.dayRollover] } : State).pending = .dayRollover :: [] := rfl

/-- Two records, numbered across the wrap (08 R142). -/
def wrapping : State :=
  { State.reset with journal := recordsFrom 0xFFFFFFFF .cold [(.lampTestOn, .part, none, none), (.lampTestOff, .part, none, none)],
                     nextSeq := 2 }

theorem witness_JournalStaysConsecutive : wrapping.journalSound ∧ ∃ t, step wrapping = .next t :=
  ⟨⟨by decide, by decide, by decide, ⟨by decide, rfl, by decide, rfl, trivial⟩⟩, _, rfl⟩

/-- Point 16 in ALERT with its entry, its copy and its qualification in agreement. -/
def alarmed : State := listed (setup manual (standing plain .alert)) (entry16 .alert)

theorem witness_AlarmListMirrorsPhases : alarmed.listSound ∧ ∃ t, step alarmed = .next t :=
  ⟨by unfold State.listSound; decide +kernel, _, rfl⟩

theorem witness_PhaseAgreesWithCondition :
    (setup manual (standing plain .alert)).pointsAgree ∧ (standing chattering .suppressed).agrees ∧
      { inService chattering with phase := .suppressed, restore := some 1 }.agrees ∧ ∃ t, step alarmed = .next t := by
  refine ⟨?_, ⟨by decide, fun _ => ⟨⟨chattering, rfl, by decide⟩, by decide⟩⟩,
    ⟨by decide, fun _ => ⟨⟨chattering, rfl, by decide⟩, by decide⟩⟩, _, rfl⟩
  intro p
  have h : ∀ p : Point, (((setup manual (standing plain .alert)).point p).phase.sequencing = true →
      ((setup manual (standing plain .alert)).point p).definition.isSome = true ∧
      (((setup manual (standing plain .alert)).point p).qualified = .abnormalQ ↔
        (((setup manual (standing plain .alert)).point p).phase = .alert ∨
          ((setup manual (standing plain .alert)).point p).phase = .acked))) ∧
      ((setup manual (standing plain .alert)).point p).phase ≠ .suppressed := by decide +kernel
  exact ⟨(h p).1, fun e => absurd e (h p).2⟩

/-- The same as the first-out point of its group. -/
def markedAlarm : State :=
  listed ((setup manual { standing plain .alert with shownMark := true }).modifyGroup 0 fun g => { g with firstOut := some 16 })
    { entry16 .alert with firstOut := true }

theorem alarmed_marksSound : alarmed.marksSound := by
  refine ⟨fun g p h => ?_, by decide +kernel, by decide +kernel⟩
  have e : ∀ g, (alarmed.group g).firstOut = none := by decide +kernel
  rw [e] at h
  cases h

theorem markedAlarm_marksSound : markedAlarm.marksSound := by
  refine ⟨fun g p h => ?_, by decide +kernel, by decide +kernel⟩
  have e : ∀ g, (markedAlarm.group g).firstOut = if g = 0 then some 16 else none := by decide +kernel
  rw [e] at h
  split at h
  · subst g
    obtain rfl : 16 = p := Option.some.inj h
    exact ⟨by decide +kernel, ⟨manual, by decide +kernel, rfl⟩, by decide +kernel⟩
  · cases h

theorem witness_LampCopiesFollowPhases :
    alarmed.copiesFollow ∧ alarmed.listSound ∧ alarmed.marksSound ∧ markedAlarm.listSound ∧ markedAlarm.marksSound ∧
      (∃ t, step alarmed = .next t) ∧ ∃ t, step markedAlarm = .next t :=
  ⟨by unfold State.copiesFollow; decide +kernel, witness_AlarmListMirrorsPhases.1, alarmed_marksSound, by unfold State.listSound; decide +kernel, markedAlarm_marksSound, ⟨_, rfl⟩, _, rfl⟩

theorem witness_AuthorityStaysLeased :
    (ask .claim []).authoritySound ∧ (ask .claim []).countersSound ∧
      (∀ n ∈ [1, 60000], (State.reset.modifyOutput fun u => { u with hostTimer := some n }).countersSound) ∧
      ∃ t, step (ask .claim []) = .next t := by
  refine ⟨⟨by decide, fun n h => ?_, by decide⟩, ⟨by decide, by decide, fun n h => ?_⟩, fun n hn => ?_, _, rfl⟩
  · obtain rfl : 1 = n := Option.some.inj h
    decide
  · cases h
  · refine ⟨by show 0 ≤ 999; omega, by show 0 ≤ 86399999; omega, fun m h => ?_⟩
    obtain rfl : n = m := Option.some.inj h
    simp at hn
    omega

theorem witness_IdleDeliveriesHoldNothing :
    (liveA State.reset 1 2 0 none).deliveriesSound ∧ ∃ t, step (liveA State.reset 1 2 0 none) = .next t := by
  refine ⟨fun l => ?_, _, rfl⟩
  cases l
  · exact ⟨fun h => absurd rfl h, fun _ => rfl⟩
  · exact ⟨fun _ => ⟨rfl, rfl, rfl, rfl⟩, fun h => absurd rfl h⟩

theorem witness_GenerationCountsChanges :
    (run (.defineGroup .a) { ask .defineGroup [0, 1, 1, 1, 7, 1] with generation := 0xFFFFFFFF }).map (·.generation) = some 1 ∧
      (run (.coldReset .line false false) { State.reset with generation := 5 }).map (·.generation) = some 0 ∧
      (run .dayRollover { State.reset with generation := 5 }).map (·.generation) = some 5 := by decide +kernel

theorem witness_HeldStateChangesOnlyByItsCommands :
    (∃ t, exec (.claim .a) (ask .claim []) = .next t) ∧ ∀ cause r1 r0, Instr.claim .a ≠ .coldReset cause r1 r0 :=
  ⟨⟨_, rfl⟩, fun _ _ _ h => Instr.noConfusion h⟩

theorem witness_LineChangeRunsTheFilter :
    (setup manual (inService plain)).inReset = false ∧ ((setup manual (inService plain)).point 16).line = false ∧
      (State.reset.point 47).definition = none ∧
      ((setup manual (inService plain)).point 16).definition = some plain ∧
      ((setup manual (inService plain)).point 16).filtered = .normal ∧
      ((setup manual (inService plain)).point 16).filterRun = none ∧
      ((setup manual { inService plain with line := true, filterRun := some 8 }).point 16).line ≠ false ∧
      ((setup manual { inService plain with line := true, filterRun := some 8 }).point 16).filtered = .normal := by
  decide +kernel

/-- A point whose filter run has just reached its filter time. -/
def due (x : PointState) (active : Bool) : PointState := { x with line := active, filterRun := some 20 }

/-- A point whose filter run has just reached its filter time is qualified in one of the ways the statement tells apart. -/
def movesDelay (x : PointState) : Bool :=
  decide ((setup manual x).inReset = false ∧ ((setup manual x).point 16).filterRun = some 20 ∧
    ∃ d ∈ x.definition, d.filterMs = 20 ∧
      (x.phase = .outOfService ∨
        (¬ (x.qualified = .normalQ ∧ x.delay = .idle ∧ d.onDelay = 0 ∧ d.sense.correct x.line = .abnormal) ∧
          ¬ (x.qualified = .abnormalQ ∧ x.delay = .idle ∧ d.offDelay = 0 ∧ d.sense.correct x.line = .normal))))

/-- What `movesDelay` says meets the statement's hypotheses. -/
theorem movesDelay_meets {x : PointState} (h : movesDelay x = true) :
    ∃ d, ((setup manual x).point 16).definition = some d ∧ ((setup manual x).point 16).filterRun = some 20 ∧ d.filterMs ≤ 20 ∧
      (((setup manual x).point 16).phase = .outOfService ∨
        (¬ RaisesBy (setup manual x) 16 d (.filteredTransition 16) ∧ ¬ ClearsBy (setup manual x) 16 d (.filteredTransition 16))) := by
  have h := of_decide_eq_true h
  have e : (setup manual x).point 16 = x := State.point_modifyPoint_self _ _ _
  obtain ⟨-, h1, d, h2, h3, h4⟩ := h
  rw [e] at h1 ⊢
  refine ⟨d, h2, h1, by omega, h4.imp id fun k => ?_⟩
  constructor
  · rintro (⟨c, -⟩ | ⟨c, -⟩ | ⟨c, -⟩ | ⟨-, q, i, z, w, -⟩)
    · exact Instr.noConfusion c
    · exact Instr.noConfusion c
    · exact Instr.noConfusion c
    · rw [e] at q i w; exact k.1 ⟨q, i, z, w⟩
  · rintro (⟨c, -⟩ | ⟨-, q, i, z, w, -⟩)
    · exact Instr.noConfusion c
    · rw [e] at q i w; exact k.2 ⟨q, i, z, w⟩

theorem witness_FilteredTransitionMovesTheDelay :
    let gathering : PointDef := { plain with mode := .accumulating }
    ∀ x ∈ [due { inService plain with phase := .outOfService } true, due { inService prompt with phase := .outOfService } true,
        due (inService plain) true, due (inService { plain with offDelay := 0 }) true, due (inService gathering) true,
        due { inService gathering with delay := .forget 39, accumulated := 29 } true,
        due { standing plain .alert with delay := .offDelay 39 } true, due { inService plain with delay := .onDelay 29 } false,
        due { inService gathering with delay := .accumulating, accumulated := 1 } false,
        due { inService gathering with delay := .accumulating, accumulated := 30 } false,
        due { inService { gathering with offDelay := 0 } with delay := .accumulating, accumulated := 29 } false,
        due { inService gathering with delay := .accumulating } false,
        due (standing plain .alert) false, due (standing { plain with onDelay := 0 } .alert) false],
      movesDelay x = true := by decide +kernel

theorem witness_QuietExpiriesForget :
    (setup manual (point21 .normal false (.forget 1000) 2300)).inReset = false ∧
      ((setup manual (point21 .normal false (.forget 1000) 2300)).point 16).delay = .forget 1000 ∧
      (((setup manual (point21 .normal false (.forget 1000) 2300)).point 16).definition.map fun d => d.offDelay * 10) = some 1000 ∧
      ((setup manual { inService chattering with raiseCount := 2, window := some 0 }).point 16).window = some 0 := by
  decide +kernel

/-- A point whose on-delay has just expired. -/
theorem raises_onDelay {x : PointState} {d : PointDef} (h : x.qualified = .normalQ) (h' : x.delay = .onDelay 30)
    (h'' : d.onDelay * 10 ≤ 30) : RaisesBy (setup manual x) 16 d (.onDelayExpiry 16) :=
  .inl ⟨rfl, by rw [setup, State.point_modifyPoint_self, h], 30, by rw [setup, State.point_modifyPoint_self, h'], h''⟩

/-- A point whose off-delay has just expired. -/
theorem clears_offDelay {x : PointState} {d : PointDef} (h : x.qualified = .abnormalQ) (h' : x.delay = .offDelay 40)
    (h'' : d.offDelay * 10 ≤ 40) : ClearsBy (setup manual x) 16 d (.offDelayExpiry 16) :=
  .inl ⟨rfl, by rw [setup, State.point_modifyPoint_self, h], 40, by rw [setup, State.point_modifyPoint_self, h'], h''⟩

/-- The four ways a RAISE comes about, each at its boundary. -/
theorem witness_RaiseOpensAnEpisode :
    RaisesBy (setup manual { inService plain with delay := .onDelay 30 }) 16 plain (.onDelayExpiry 16) ∧
      RaisesBy (setup manual { inService plain with delay := .accumulating, accumulated := 30 }) 16 plain
        (.accumulationExpiry 16) ∧
      RaisesBy (setup manual { inService prompt with restartRaise := true }) 16 prompt (.restartRaise 16) ∧
      RaisesBy (setup manual (due (inService prompt) true)) 16 prompt (.filteredTransition 16) ∧
      (∀ x ∈ [{ inService plain with delay := .onDelay 30 }, { inService plain with delay := .accumulating, accumulated := 30 },
          { inService prompt with restartRaise := true }, due (inService prompt) true],
        ready (setup manual x) = true ∧ ((setup manual x).point 16).phase = .normal ∧
          ((setup manual x).group 0).definition = some manual ∧
          (((setup manual x).point 16).definition.map fun d => (d.group, d.chatterLimit)) = some (0, 0)) ∧
      ((setup manual { inService chattering with raiseCount := 1, window := some 1 }).point 16).countedRaise < 3 := by
  refine ⟨.inl ⟨rfl, by decide +kernel, 30, by decide +kernel, by decide⟩,
    .inr (.inl ⟨rfl, by decide +kernel, by decide +kernel, by decide +kernel⟩),
    .inr (.inr (.inl ⟨rfl, by decide +kernel⟩)),
    .inr (.inr (.inr ⟨rfl, by decide +kernel, by decide +kernel, rfl, by decide +kernel, 20, by decide +kernel, by decide⟩)),
    by decide +kernel, by decide +kernel⟩

/-- Whether a state meets what the statements of a point's phase change ask: running, point 16 with a definition of group 0, the
group defined, a phase, its entry. -/
def meets (s : State) (d : PointDef) (g : GroupDef) (ph : Phase) (e : Option Entry) : Bool :=
  ready s && decide ((s.point 16).definition = some d) && decide ((s.group 0).definition = some g) &&
    decide ((s.point 16).phase = ph) && decide (s.entry? 16 = e)

/-- Point 16 about to raise in a phase, with a raise count and a window. -/
def raising (d : PointDef) (ph : Phase) (n : Nat) (w : Option Nat) : PointState :=
  { inService d with phase := ph, delay := .onDelay 30, raiseCount := n, window := w }

theorem witness_ReRaiseKeepsTheEntry :
    (∀ ph, RaisesBy (listed (setup manual (raising plain ph 0 none)) (entry16 ph)) 16 plain (.onDelayExpiry 16)) ∧
      (∀ ph ∈ [Phase.clearedUnacked, .waitReset, .ringback],
        meets (listed (setup manual (raising plain ph 0 none)) (entry16 ph)) plain manual ph (some (entry16 ph)) = true) ∧
      meets (listed (setup manual (raising chattering .waitReset 1 (some 1))) (entry16 .waitReset)) chattering manual .waitReset
        (some (entry16 .waitReset)) = true ∧ (raising chattering .waitReset 1 (some 1)).countedRaise < chattering.chatterLimit :=
  ⟨fun _ => raises_onDelay rfl rfl (by decide), by decide +kernel, by decide +kernel, by decide⟩

theorem witness_ChatterLimitSuppresses :
    RaisesBy (setup manual (raising chattering .normal 2 (some 7700))) 16 chattering (.onDelayExpiry 16) ∧
      meets (setup manual (raising chattering .normal 2 (some 7700))) chattering manual .normal none = true ∧
      RaisesBy (listed (setup manual (raising chattering .ringback 2 (some 0))) (entry16 .ringback)) 16 chattering
        (.onDelayExpiry 16) ∧
      meets (listed (setup manual (raising chattering .ringback 2 (some 0))) (entry16 .ringback)) chattering manual .ringback
        (some (entry16 .ringback)) = true ∧
      2 ≤ chattering.chatterLimit ∧ (raising chattering .normal 2 (some 7700)).raiseCount + 1 = chattering.chatterLimit :=
  ⟨raises_onDelay rfl rfl (by decide), by decide +kernel, raises_onDelay rfl rfl (by decide), by decide +kernel, by decide,
    by decide⟩

/-- Point 16 about to clear in a phase. -/
def clearing (d : PointDef) (ph : Phase) : PointState := { standing d ph with delay := .offDelay 40 }

theorem witness_SuppressedSignalsMoveTheRestoreTimer :
    RaisesBy (setup manual (raising chattering .suppressed 0 none)) 16 chattering (.onDelayExpiry 16) ∧
      meets (setup manual (raising chattering .suppressed 0 none)) chattering manual .suppressed none = true ∧
      ClearsBy (setup manual (clearing chattering .suppressed)) 16 chattering (.offDelayExpiry 16) ∧
      meets (setup manual (clearing chattering .suppressed)) chattering manual .suppressed none = true :=
  ⟨raises_onDelay rfl rfl (by decide), by decide +kernel, clears_offDelay rfl rfl (by decide), by decide +kernel⟩

theorem witness_ClearOfAlertAwaitsAcknowledgement :
    ClearsBy (listed (setup manual (clearing plain .alert)) (entry16 .alert)) 16 plain (.offDelayExpiry 16) ∧
      meets (listed (setup manual (clearing plain .alert)) (entry16 .alert)) plain manual .alert (some (entry16 .alert)) = true ∧
      ClearsBy (setup manual (due (standing prompt .alert) false)) 16 prompt (.filteredTransition 16) ∧
      meets (setup manual (due (standing prompt .alert) false)) prompt manual .alert none = true :=
  ⟨clears_offDelay rfl rfl (by decide), by decide +kernel,
    .inr ⟨rfl, by decide +kernel, by decide +kernel, rfl, by decide +kernel, 20, by decide +kernel, by decide⟩, by decide +kernel⟩

theorem witness_ClearOfAckedFollowsTheSequence :
    ∀ ty ∈ [SequenceType.auto, .manual, .ringback],
      ClearsBy (listed (setup { manual with sequence := ty } (clearing plain .acked)) (entry16 .acked)) 16 plain
          (.offDelayExpiry 16) ∧
        meets (listed (setup { manual with sequence := ty } (clearing plain .acked)) (entry16 .acked)) plain
          { manual with sequence := ty } .acked (some (entry16 .acked)) = true := by
  intro ty _
  refine ⟨.inl ⟨rfl, ?_, 40, ?_, by decide⟩, ?_⟩
  · cases ty <;> decide +kernel
  · cases ty <;> decide +kernel
  · cases ty <;> decide +kernel

theorem witness_RealertReturnsToAlert :
    meets (listed (setup manual { standing plain .acked with realert := some 0 }) (entry16 .acked)) plain manual .acked
        (some (entry16 .acked)) = true ∧
      ((listed (setup manual { standing plain .acked with realert := some 0 }) (entry16 .acked)).point 16).realert = some 0 := by
  decide +kernel

theorem witness_RestoreTimerReturnsToNormal :
    meets (setup manual { inService chattering with phase := .suppressed, restore := some 0 }) chattering manual .suppressed
        none = true ∧
      ((setup manual { inService chattering with phase := .suppressed, restore := some 0 }).point 16).restore = some 0 := by
  decide +kernel

theorem witness_CountersWrap :
    ready State.reset = true ∧ (State.reset.modifyOutput fun u => { u with cycle := 999 }).output.cycle = 999 ∧
      ({ State.reset with time := { day := 65535, ms := 86399999, isSet := true } } : State).time.ms = 86399999 := by decide +kernel

theorem witness_AnIdleStepIsOneMillisecond :
    State.reset.pending = [] ∧ State.reset.inReset = false ∧ State.reset.due = [] := by decide +kernel

theorem witness_PanelLineChangeRunsTheFilter :
    ready State.reset = true ∧ (State.reset.operator.panelLine .ack).line = false ∧
      (State.reset.operator.panelLine .ack).filtered = false ∧ (State.reset.operator.panelLine .ack).run = none := by
  decide +kernel

/-- A panel line whose run has just reached 20 ms. -/
def pressed (line : PanelLine) (active : Bool) : State :=
  State.reset.modifyOperator fun u => u.setPanelLine line { line := active, filtered := !active, run := some 20 }

theorem witness_PressBeginsOrWaits :
    (∀ line ∈ [PanelLine.ack, .reset], ∀ active ∈ [true, false],
      ready (pressed line active) = true ∧ ((pressed line active).operator.panelLine line).run = some 20 ∧
        ((pressed line active).operator.panelLine line).line = active ∧ (pressed line active).operator.slotPanel = none ∧
        (pressed line active).operator.waiting = []) ∧
      (walking (pressed .ack true) .panel (action .reset .panel (.examine 0))).operator.slotPanel ≠ none := by decide +kernel

theorem witness_LampTestSourcesAppendTheirRecords :
    ready (pressed .test true) = true ∧ (pressed .test true).operator.test.run = some 20 ∧
      (pressed .test true).output.testLevel ≠ (pressed .test true).operator.test.line ∧
      ready (State.reset.modifyOutput fun u => { u with hostTimer := some 1 }) = true ∧
      (State.reset.modifyOutput fun u => { u with hostTimer := some 1 }).output.hostTimer = some 1 := by decide +kernel

theorem witness_WaitingPressBegins :
    ∀ x ∈ [Press.ack, .reset, .silence],
      ready (State.reset.modifyOperator fun u => { u with waiting := [x] }) = true ∧
        (State.reset.modifyOperator fun u => { u with waiting := [x] }).operator.slotPanel = none ∧
        (State.reset.modifyOperator fun u => { u with waiting := [x] }).operator.waiting = [x] := by decide +kernel

theorem witness_AckWalkAcknowledges :
    (∀ ph ∈ [Phase.alert, .clearedUnacked, .acked], ∀ ty ∈ [SequenceType.auto, .manual, .ringback], ∀ b ∈ [true, false],
      ∀ sc ∈ [Scope.all, .group 0, .point 16],
        let g : GroupDef := { manual with sequence := ty, permitsPanel := b }
        let a : Action := { action .ack .panel (.ackAt 16) with scope := sc }
        let s := walking (listed (setup g { inService plain with phase := ph }) (entry16 ph)) .panel a
        meets s plain g ph (some (entry16 ph)) = true ∧ s.operator.slot .panel = some a ∧ s.groupPermits 0 .panel = b) ∧
      (∀ p ∈ ([0, 46, 47] : List Point), ∀ sc ∈ [Scope.all, .group 0],
        let a : Action := { action .ack .panel (.ackAt p) with scope := sc }
        (walking State.reset .panel a).operator.slot .panel = some a ∧
          ((walking State.reset .panel a).point p).definition = none) ∧
      let a : Action := { action .ack .panel (.ackAt 16) with scope := .group 1 }
      let s := walking (listed (setup manual (standing plain .alert)) (entry16 .alert)) .panel a
      s.inReset = false ∧ s.operator.slot .panel = some a ∧ s.groupOf 16 ≠ some 1 := by
  decide +kernel

/-- An ACK of Link A at its last point, its request in progress. -/
def lastAck (a : Action) : State :=
  walking { State.reset with chainA := { Chain.cold with places := [.inProgress 0x20 7] } } .linkA a

theorem witness_AckWalkEndsWithItsReply :
    (∀ a ∈ [action .ack .linkA (.ackAt 47), { action .ack .linkA (.ackAt 47) with scope := .group 0 },
        { action .ack .linkA (.ackAt 47) with scope := .point 47, pointsChanged := 1 }],
      ready (lastAck a) = true ∧ (lastAck a).operator.slot (linkSource .a) = some a ∧ ((lastAck a).point 47).definition = none ∧
        ((lastAck a).point 47).phase ≠ .alert ∧ ((lastAck a).point 47).phase ≠ .clearedUnacked ∧
        (lastAck a).groupOf 47 ≠ some 0 ∧
        (firstReady (replaceFirst (Place.completeWith (a.lastReply 7)) ((lastAck a).chain .a).places)).isSome = true) ∧
      (walking State.reset .panel (action .ack .panel (.ackAt 47))).operator.slot .panel = some (action .ack .panel (.ackAt 47)) := by
  decide +kernel

theorem witness_ResetWalkResetsMembers :
    (∀ ph ∈ [Phase.waitReset, .ringback, .acked], ∀ b ∈ [true, false], ∀ sc ∈ [Scope.all, .group 0],
      let g : GroupDef := { manual with permitsB := b }
      let a : Action := { action .reset .linkB (.member 0 16) with scope := sc }
      let s := walking (listed (setup g { inService plain with phase := ph }) (entry16 ph)) .linkB a
      meets s plain g ph (some (entry16 ph)) = true ∧ s.operator.slot .linkB = some a ∧ s.groupPermits 0 .linkB = b) ∧
      (∀ b ∈ [true, false], ∀ sc ∈ [Scope.all, .group 0],
        let a : Action := { action .reset .linkB (.examine 0) with scope := sc }
        let s := walking (setup { manual with permitsB := b } (inService plain)) .linkB a
        ready s = true ∧ s.operator.slot .linkB = some a ∧ s.groupPermits 0 .linkB = b) ∧
      afterGroup .all 7 = none ∧ afterGroup (.group 0) 0 = none ∧ afterMember 0 47 = .clearing 0 ∧
      State.reset.groupOf 47 ≠ some 0 ∧ State.reset.groupPermits 7 .linkB = false := by
  decide +kernel

theorem witness_ResetClearsTheFirstOutMark :
    ∀ mark ∈ [none, some (16 : Point)], ∀ b ∈ [true, false], ∀ sc ∈ [Scope.all, .group 0],
      let a : Action := { action .reset .linkB (.clearing 0) with scope := sc }
      let s := walking ((setup { manual with permitsB := b } (standing plain .acked)).modifyGroup 0 fun g =>
        { g with firstOut := mark }) .linkB a
      ready s = true ∧ (s.group 0).firstOut = mark ∧ s.operator.slot .linkB = some a ∧ s.groupPermits 0 .linkB = b := by
  decide +kernel

/-- Whether a request of Link A with tag 7 is accepted. -/
def accepted (s : State) (k : ReqKind) (body : List Byte) : Bool :=
  decide (s.inReset = false ∧ (s.chain .a).nextRequest = some { kind := k.code, tag := 7, body := body } ∧
    (k ≠ .hello → s.session.isOpen .a = true) ∧ k.formatOk body = true ∧
    (k.needsAuthority = true → s.session.holder = some .a) ∧ s.journal.length ≤ Config.journalCapacity)

theorem accepts_of {s : State} {k : ReqKind} {body : List Byte} (h : accepted s k body = true) : Accepts s .a k 7 body :=
  accepts (of_decide_eq_true h)

/-- The bodies of the operator requests that the statement tells apart: begun, and refused for each reason at its boundary. -/
theorem witness_OperatorRequestsBeginOrAreRefused :
    (∀ a ∈ ([2, 1, 0, 3] : List Byte), ∀ b ∈ ([0, 7, 8, 16, 47, 48] : List Byte), ∀ ph ∈ [Phase.normal, .suppressed, .outOfService],
      accepted (askOf (setup manual { inService plain with phase := ph }) .ack [a, b]) .ack [a, b] = true ∧
        accepted (askOf (setup manual { inService plain with phase := ph }) .reset [a, b]) .reset [a, b] = true) ∧
      accepted (busyA (ask .ack [2, 0])) .ack [2, 0] = true ∧
      ∀ p ∈ [true, false], ∀ body ∈ ([[0, 16], [1, 0]] : List (List Byte)),
        let s := askOf (setup { manual with permitsA := p } (inService plain)) .ack body
        accepted s .ack body = true ∧ (s.point 16).definition = some plain ∧ (s.point 16).phase = .normal ∧
          s.groupPermits 0 (linkSource .a) = p := by
  decide +kernel

/-- The two latches as given. -/
def latched (s : State) (horn tone : Bool) : State := s.modifyOutput fun u => { u with horn := horn, tone := tone }

theorem witness_SilenceClearsTheLatches :
    (∀ h t : Bool, Accepts (latched (ask .silence []) h t) .a .silence 7 []) ∧
      ready (pressed .silence true) = true ∧ (pressed .silence true).operator.silence.run = some 20 ∧
      (pressed .silence true).operator.silence.line = true ∧ (pressed .silence true).operator.slotPanel = none ∧
      (pressed .silence true).operator.waiting = [] ∧
      (walking (pressed .silence true) .panel (action .reset .panel (.examine 0))).operator.slotPanel ≠ none ∧
      (pressed .silence false).inReset = false ∧ (pressed .silence false).operator.silence.run = some 20 ∧
      (pressed .silence false).operator.silence.line = false ∧
      ∀ w ∈ [[Press.silence], [Press.ack]],
        ready ((pressed .silence true).modifyOperator fun u => { u with waiting := w }) = true := by
  refine ⟨fun h t => accepts_of ?_, by decide +kernel⟩
  cases h <;> cases t <;> decide +kernel

/-- The host timer as given. -/
def timed (s : State) (n : Option Nat) : State := s.modifyOutput fun u => { u with hostTimer := n }

theorem witness_LampTestRunsTheHostTimer :
    Accepts (timed (ask .lampTest [61]) none) .a .lampTest 7 [61] ∧ Accepts (timed (ask .lampTest [60]) none) .a .lampTest 7 [60] ∧
      Accepts (timed (ask .lampTest [1]) (some 1)) .a .lampTest 7 [1] ∧
      Accepts (timed (ask .lampTest [0]) (some 1)) .a .lampTest 7 [0] ∧
      Accepts (timed (ask .lampTest [0]) none) .a .lampTest 7 [0] :=
  ⟨accepts_of (by decide +kernel), accepts_of (by decide +kernel), accepts_of (by decide +kernel),
    accepts_of (by decide +kernel), accepts_of (by decide +kernel)⟩

/-- Link A's session as given. -/
def opened (s : State) (isOpen : Bool) : State := { s with session := s.session.setOpen .a isOpen }

theorem witness_HelloOpensAndByeCloses :
    Accepts (opened (heldBy (ask .hello []) none none) false) .a .hello 7 [] ∧ Accepts (ask .hello []) .a .hello 7 [] ∧
      Accepts (heldBy (ask .bye []) (some .b) (some 1)) .a .bye 7 [] ∧ Accepts (ask .bye []) .a .bye 7 [] :=
  ⟨accepts_of (by decide +kernel), accepts_of (by decide +kernel), accepts_of (by decide +kernel), accepts_of (by decide +kernel)⟩

theorem witness_ClaimGrantsOrNamesTheHolder :
    Accepts (heldBy (ask .claim []) none none) .a .claim 7 [] ∧ Accepts (ask .claim []) .a .claim 7 [] ∧
      Accepts (heldBy (ask .claim []) (some .b) (some 1)) .a .claim 7 [] :=
  ⟨accepts_of (by decide +kernel), accepts_of (by decide +kernel), accepts_of (by decide +kernel)⟩

theorem witness_AuthorityIsFreedWithItsRecord :
    Accepts (ask .release []) .a .release 7 [] ∧ Accepts (heldBy (ask .release []) (some .b) (some 1)) .a .release 7 [] ∧
      ready (heldBy State.reset (some .b) (some 0)) = true ∧ (heldBy State.reset (some .b) (some 0)).session.holder = some .b ∧
      (heldBy State.reset (some .b) (some 0)).session.lease = some 0 :=
  ⟨accepts_of (by decide +kernel), accepts_of (by decide +kernel), by decide +kernel⟩

/-- A restart pending on a link. -/
def pendingOn (s : State) (l : Option Link) : State := { s with session := { s.session with restartPending := l } }

/-- A RESTART with a reply before it and a request behind it. -/
def crowded : State :=
  { ask .restart [] with
    chainA := { Chain.cold with
      places := [.ready { kind := 0x06, tag := 6, result := .ok, fields := [] }, .waiting 0x05 7 [], .waiting 0x06 8 []] } }

theorem witness_RestartBecomesPending :
    Accepts crowded .a .restart 7 [] ∧ crowded.session.restartPending = none ∧
      (crowded.chain .a).places =
        [.ready { kind := 0x06, tag := 6, result := .ok, fields := [] }] ++ .waiting 0x05 7 [] :: [.waiting 0x06 8 []] ∧
      (∀ x ∈ [Place.ready { kind := 0x06, tag := 6, result := .ok, fields := [] }], Place.request? x = none) ∧
      Accepts (pendingOn (ask .restart []) (some .b)) .a .restart 7 [] ∧
      (pendingOn State.reset (some .a)).inReset = false ∧ (pendingOn State.reset (some .a)).session.restartPending = some .a :=
  ⟨accepts_of (by decide +kernel), by decide +kernel, rfl, by decide +kernel, accepts_of (by decide +kernel), by decide +kernel⟩

/-- 86,399,999 is 0526 5BFFh. -/
theorem witness_SetTimeRecordsThePreviousTime :
    Accepts (ask .setTime [0xFF, 0xFF, 0x05, 0x26, 0x5B, 0xFF]) .a .setTime 7 [0xFF, 0xFF, 0x05, 0x26, 0x5B, 0xFF] ∧
      Accepts (ask .setTime [0, 0, 0x05, 0x26, 0x5C, 0x00]) .a .setTime 7 [0, 0, 0x05, 0x26, 0x5C, 0x00] ∧
      0x05 * 16777216 + 0x26 * 65536 + 0x5B * 256 + 0xFF = 86399999 :=
  ⟨accepts_of (by decide +kernel), accepts_of (by decide +kernel), rfl⟩

theorem witness_RefusedRequestsChangeNothing :
    ((opened (heldBy (ask .claim []) none none) false).inReset = false ∧
      ((opened (heldBy (ask .claim []) none none) false).chain .a).nextRequest =
        some { kind := ReqKind.claim.code, tag := 7, body := [] } ∧
      (opened (heldBy (ask .claim []) none none) false).session.isOpen .a = false) ∧
      (((ask .hello [0]).chain .a).nextRequest = some { kind := ReqKind.hello.code, tag := 7, body := [0] } ∧
        ReqKind.formatOk [0] .hello = false) ∧
      (∀ h ∈ [none, some (otherLink .a)],
        (heldBy (ask .restore [16]) h none).inReset = false ∧
          ((heldBy (ask .restore [16]) h none).chain .a).nextRequest =
            some { kind := ReqKind.restore.code, tag := 7, body := [16] } ∧
          (heldBy (ask .restore [16]) h none).session.isOpen .a = true ∧ ReqKind.formatOk [16] .restore = true ∧
          ReqKind.restore.needsAuthority = true ∧ (heldBy (ask .restore [16]) h none).session.holder = h) ∧
      (∀ o : Bool,
        (opened { ask .bye [] with chainA := { Chain.cold with places := [.waiting 0x99 7 []] } } o).inReset = false ∧
          ((opened { ask .bye [] with chainA := { Chain.cold with places := [.waiting 0x99 7 []] } } o).chain .a).nextRequest =
            some { kind := 0x99, tag := 7, body := [] } ∧ requestKind 0x99 = none) := by decide +kernel

/-- Whether each byte of a body stays within its bound. -/
def within (body : List Byte) (bounds : List Nat) : Bool :=
  decide (body.length = bounds.length) && (body.zip bounds).all fun x => decide (x.1.toNat ≤ x.2)

theorem witness_GroupsAreDefinedAndUndefined :
    (∀ body ∈ ([[0, 0, 0, 0, 0, 0], [0, 1, 1, 1, 7, 1], [7, 2, 1, 1, 7, 240]] : List (List Byte)),
      within body [7, 2, 1, 1, 7, 240] = true ∧ accepted (ask .defineGroup body) .defineGroup body = true ∧
        ∀ g p, (ask .defineGroup body).groupOf p ≠ some g) ∧
      (∀ ph ∈ [Phase.outOfService, .normal],
        let s := askOf (setup manual { inService plain with phase := ph }) .defineGroup [0, 1, 1, 1, 7, 1]
        accepted s .defineGroup [0, 1, 1, 1, 7, 1] = true ∧ s.groupOf 16 = some 0 ∧ (s.point 16).phase = ph ∧
          ∀ p, s.groupOf p = some 0 → p = 16) ∧
      (∀ body ∈ ([[8, 2, 1, 1, 7, 240], [7, 3, 1, 1, 7, 240], [7, 2, 2, 1, 7, 240], [7, 2, 1, 2, 7, 240], [7, 2, 1, 1, 8, 240],
          [7, 2, 1, 1, 7, 241]] : List (List Byte)), accepted (ask .defineGroup body) .defineGroup body = true) ∧
      (∀ x ∈ [PointState.cold, inService plain],
        let s := askOf (setup manual x) .undefineGroup [0]
        accepted s .undefineGroup [0] = true ∧ (s.group 0).definition ≠ none ∧
          (s.groupOf 16 = if x = PointState.cold then none else some 0) ∧ ∀ p ≠ 16, s.groupOf p ≠ some 0) ∧
      (ask .undefineGroup [7]).group 7 = { definition := none, firstOut := none } ∧
      ∀ n ∈ ([7, 8] : List Byte), accepted (ask .undefineGroup [n]) .undefineGroup [n] = true := by
  decide +kernel

/-- A DEFINE POINT body for point 16 as `plain`. -/
def plainBody : List Byte := [16, 0, 0, 20, 0, 3, 0, 4, 0, 0, 0, 0, 0]

theorem witness_PointsAreDefinedAndUndefined :
    (∀ body ∈ ([[0, 0, 0, 2, 0, 0, 0, 0, 0, 0, 0xFF, 0xFF, 0], [0, 0, 0, 2, 0, 0, 0, 0, 0, 2, 0, 10, 1, 0x20],
        [47, 0, 1, 250, 0x17, 0x70, 0x17, 0x70, 1, 20, 0x0E, 0x10, 16] ++ List.replicate 16 0x7E] : List (List Byte)),
      within (body.take 10) [47, 7, 1, 250, 0x17, 0x70, 0x17, 0x70, 1, 20] = true ∧ body.length ≤ 29 ∧
        accepted (askOf (setup manual PointState.cold) .definePoint body) .definePoint body = true) ∧
      ((askOf (setup manual PointState.cold) .definePoint plainBody).group 0).definition ≠ none ∧
      (∀ x ∈ [PointState.cold, { inService plain with phase := .outOfService }, inService plain],
        let s := askOf (setup manual x) .definePoint plainBody
        accepted s .definePoint plainBody = true ∧ (s.group plain.group).definition ≠ none ∧ s.point 16 = x) ∧
      accepted (ask .definePoint plainBody) .definePoint plainBody = true ∧
      ((ask .definePoint plainBody).group plain.group).definition = none ∧
      (∀ body ∈ ([[48, 7, 1, 250, 0x17, 0x70, 0x17, 0x70, 1, 20, 0x0E, 0x10, 0], [47, 8, 1, 250, 0x17, 0x70, 0x17, 0x70, 1, 20, 0x0E, 0x10, 0],
          [47, 7, 2, 250, 0x17, 0x70, 0x17, 0x70, 1, 20, 0x0E, 0x10, 0], [47, 7, 1, 1, 0x17, 0x70, 0x17, 0x70, 1, 20, 0x0E, 0x10, 0],
          [47, 7, 1, 251, 0x17, 0x70, 0x17, 0x70, 1, 20, 0x0E, 0x10, 0], [47, 7, 1, 250, 0x17, 0x71, 0x17, 0x70, 1, 20, 0x0E, 0x10, 0],
          [47, 7, 1, 250, 0x17, 0x70, 0x17, 0x71, 1, 20, 0x0E, 0x10, 0], [47, 7, 1, 250, 0x17, 0x70, 0x17, 0x70, 2, 20, 0x0E, 0x10, 0],
          [47, 7, 1, 250, 0x17, 0x70, 0x17, 0x70, 1, 1, 0x0E, 0x10, 0], [47, 7, 1, 250, 0x17, 0x70, 0x17, 0x70, 1, 21, 0x0E, 0x10, 0],
          [47, 7, 1, 250, 0x17, 0x70, 0x17, 0x70, 1, 20, 0, 9, 0], [47, 7, 1, 250, 0x17, 0x70, 0x17, 0x70, 1, 20, 0x0E, 0x11, 0],
          [47, 7, 1, 250, 0x17, 0x70, 0x17, 0x70, 1, 20, 0x0E, 0x10, 1, 0x1F], [47, 7, 1, 250, 0x17, 0x70, 0x17, 0x70, 1, 20, 0x0E, 0x10, 1, 0x7F],
          [47, 7, 1, 250, 0x17, 0x70, 0x17, 0x70, 1, 20, 0x0E, 0x10, 17] ++ List.replicate 17 0x20] : List (List Byte)),
        accepted (ask .definePoint body) .definePoint body = true) ∧
      (∀ x ∈ [PointState.cold, { inService plain with phase := .outOfService }, inService plain],
        let s := askOf (setup manual x) .undefinePoint [16]
        accepted s .undefinePoint [16] = true ∧ s.point 16 = x) ∧
      accepted (ask .undefinePoint [48]) .undefinePoint [48] = true := by decide +kernel

theorem witness_ServiceOutEndsTheEpisode :
    accepted (askOf (listed (setup manual (standing plain .alert)) (entry16 .alert)) .setService [16, 0]) .setService [16, 0] =
        true ∧
      meets (askOf (listed (setup manual (standing plain .alert)) (entry16 .alert)) .setService [16, 0]) plain manual .alert
        (some (entry16 .alert)) = true ∧
      (∀ ph ∈ [Phase.normal, .outOfService],
        let s := askOf (setup manual { inService plain with phase := ph }) .setService [16, 0]
        accepted s .setService [16, 0] = true ∧ meets s plain manual ph none = true) ∧
      ∀ body ∈ ([[47, 0], [48, 0], [47, 2]] : List (List Byte)), accepted (ask .setService body) .setService body = true := by
  decide +kernel

theorem witness_ServiceInStartsQualification :
    (∀ x ∈ [{ inService prompt with phase := .outOfService }, { inService plain with phase := .outOfService, filtered := .abnormal },
        { inService prompt with phase := .outOfService, filtered := .abnormal },
        { inService { chattering with onDelay := 0 } with
          phase := .outOfService, filtered := .abnormal, raiseCount := 1, window := some 1 },
        inService plain, { inService chattering with phase := .suppressed }, PointState.cold],
      let s := askOf (setup manual x) .setService [16, 1]
      accepted s .setService [16, 1] = true ∧ s.point 16 = x ∧ (s.group 0).definition = some manual) ∧
      ({ inService { chattering with onDelay := 0 } with
          phase := .outOfService, filtered := .abnormal, raiseCount := 1, window := some 1 } : PointState).countedRaise < 3 ∧
      accepted (ask .setService [48, 1]) .setService [48, 1] = true := by decide +kernel

theorem witness_RestoreReturnsToNormal :
    (∀ x ∈ [{ inService chattering with phase := .suppressed }, standing chattering .suppressed, inService chattering,
        PointState.cold],
      let s := askOf (setup manual x) .restore [16]
      accepted s .restore [16] = true ∧ s.point 16 = x ∧ (s.group 0).definition = some manual) ∧
      (standing chattering .suppressed).countedRaise < chattering.chatterLimit ∧
      accepted (ask .restore [48]) .restore [48] = true := by decide +kernel

theorem witness_ReadsAnswerAndChangeNothing :
    accepted (ask .readStatus []) .readStatus [] = true ∧
      (∀ n ∈ ([0, 47, 48] : List Byte), accepted (ask .readPoint [n]) .readPoint [n] = true) ∧
      (∀ x ∈ [inService plain, { inService plain with phase := .outOfService }, { PointState.cold with line := true }],
        accepted (askOf (setup manual x) .readPoint [16]) .readPoint [16] = true ∧
          (askOf (setup manual x) .readPoint [16]).point 16 = x) ∧
      (∀ n ∈ ([0, 7, 8] : List Byte), accepted (ask .readGroup [n]) .readGroup [n] = true) ∧
      (∀ m ∈ ([0, 1, 8, 9] : List Byte), accepted (ask .readList [0, m]) .readList [0, m] = true) ∧
      (∀ n ∈ ([0, 1, 2, 3] : List Byte), ∀ m ∈ ([0, 1, 8, 9] : List Byte),
        accepted (ask .readJournal [0, 0, 0, n, m]) .readJournal [0, 0, 0, n, m] = true) ∧
      (ask .readJournal []).position 1 = .held ∧ (ask .readJournal []).position 2 = .next ∧
      (ask .readJournal []).position 3 = .ahead ∧
      (∀ body ∈ ([[0, 0, 0, 1, 8]] : List (List Byte)),
        accepted (askOf (fullFrom 2001) .readJournal body) .readJournal body = true ∧
          (askOf (fullFrom 2001) .readJournal body).position 1 = .behind) := by decide +kernel

theorem witness_SubscribeStartsTheDelivery :
    (∀ body ∈ ([[], [0, 0, 0, 0], [0, 0, 0, 1], [0, 0, 0, 2], [0, 0, 0, 3]] : List (List Byte)),
      accepted (ask .subscribe body) .subscribe body = true) ∧
      (ask .subscribe []).position 1 = .held ∧ (ask .subscribe []).position 2 = .next ∧ (ask .subscribe []).position 3 = .ahead ∧
      accepted (askOf (fullFrom 2001) .subscribe [0, 0, 0, 1]) .subscribe [0, 0, 0, 1] = true ∧
      (askOf (fullFrom 2001) .subscribe [0, 0, 0, 1]).position 1 = .behind := by decide +kernel

theorem witness_UnsubscribeTurnsTheDeliveryOff :
    accepted (liveA (ask .unsubscribe []) 1 2 0 none) .unsubscribe [] = true ∧
      ((liveA (ask .unsubscribe []) 1 2 0 none).chain .a).delivery.state ≠ .off ∧
      accepted (ask .unsubscribe []) .unsubscribe [] = true ∧ ((ask .unsubscribe []).chain .a).delivery.state = .off := by
  decide +kernel

/-- CONFIRM at both ends of the numbers in flight, and just outside them. -/
theorem witness_ConfirmAdvancesOrIsIgnored :
    (liveA (fullFrom 2001) 2000 2005 1 (some 9)).inReset = false ∧
      (liveA (fullFrom 2001) 2000 2005 1 (some 9)).session.restartPending ≠ some .a ∧
      (liveA (fullFrom 2001) 2000 2005 1 (some 9)).session.isOpen .a = true ∧
      0 < forward 2000 2001 ∧ forward 2000 2001 < forward 2000 2005 ∧ forward 2000 2004 < forward 2000 2005 ∧
      1 < forward 2001 2005 ∧
      (0x00#8 ++ 0x00#8 ++ 0x07#8 ++ 0xD1#8 : Seq) = 2001 ∧ forward 2000 2005 ≤ forward 2000 2005 ∧
      forward 2004 2005 ≤ 1 ∧ (liveA (fullFrom 2001) 2000 2005 1 (some 9)).isHeld 2005 = true ∧
      (liveA wrapping 0xFFFFFFFE 2 1 (some 9)).session.isOpen .a = true ∧ 0 < forward 0xFFFFFFFE 1 ∧
      forward 0xFFFFFFFE 1 < forward 0xFFFFFFFE 2 ∧ forward 1 2 ≤ 1 ∧ (liveA wrapping 0xFFFFFFFE 2 1 (some 9)).isHeld 2 = false ∧
      ((liveA wrapping 0xFFFFFFFE 2 1 (some 9)).chain .a).line = none ∧
      ((busyA (liveA wrapping 0xFFFFFFFE 2 1 (some 9))).chain .a).line.isSome = true ∧
      State.reset.session.isOpen .a = false ∧ ([] : List Byte).length ≠ 4 := by decide +kernel

/-- Link A with a free line, two records in flight across the wrap, the timer due, and the places given. -/
def replying (places : List Place) : State :=
  let s := liveA wrapping 0xFFFFFFFE 2 0 (some 0)
  { s with chainA := { s.chainA with places := places } }

/-- On a busy line, and on a free one with and without a reply waiting. -/
theorem witness_RetransmissionRepeatsOrFallsSilent :
    (∀ n ∈ [0, 3], ready (busyA (liveA State.reset 1 1 n (some 0))) = true ∧
      ((busyA (liveA State.reset 1 1 n (some 0))).chain .a).line.isSome = true ∧
      ((busyA (liveA State.reset 1 1 n (some 0))).chain .a).delivery.state = .live ∧
      ((busyA (liveA State.reset 1 1 n (some 0))).chain .a).delivery.timer = some 0 ∧
      ((busyA (liveA State.reset 1 1 n (some 0))).chain .a).delivery.retry = n) ∧
      (∀ places ∈ [[], [Place.ready { kind := 0x30, tag := 7, result := .ok, fields := [] }]],
        ready (replying places) = true ∧ ((replying places).chain .a).line = none ∧
          (firstReady ((replying places).chain .a).places).isSome = !places.isEmpty ∧
          ((replying places).chain .a).delivery.state = .live ∧ ((replying places).chain .a).delivery.timer = some 0 ∧
          ((replying places).chain .a).delivery.retry = 0 ∧
          ((replying places).chain .a).delivery.flight = [0xFFFFFFFF, 1] ∧
          ((replying places).record? 0xFFFFFFFF).isSome = true) ∧
      ready (liveA State.reset 1 1 4 (some 0)) = true ∧ ((liveA State.reset 1 1 4 (some 0)).chain .a).delivery.retry = 4 ∧
      ((liveA State.reset 1 1 4 (some 0)).chain .a).delivery.timer = some 0 := by decide +kernel

/-- Link A LIVE with two records in flight across the wrap, one to be repeated and one not yet sent. -/
def liveWindow : State :=
  let s := liveA wrapping 0xFFFFFFFE 2 1 (some 500)
  { s with chainA := { s.chainA with
      delivery := { s.chainA.delivery with
        offers := [{ seq := 0xFFFFFFFF, isRepeat := true }, { seq := 1, isRepeat := false }] } } }

theorem liveWindow_windowsSound : liveWindow.windowsSound := by
  intro l h
  cases l
  · have t : (liveWindow.chain .a).delivery.timer = some 500 := by decide +kernel
    have f : seqsFrom (forward 0xFFFFFFFE 2 - 1) (seqNext 0xFFFFFFFE) = [0xFFFFFFFF, 1] := by decide +kernel
    refine ⟨0xFFFFFFFE, 2, by decide +kernel, by decide +kernel, by decide +kernel, by decide +kernel, by decide +kernel,
      by decide +kernel, ?_, .inr (by decide +kernel),
      ⟨[0xFFFFFFFF], [1], by decide +kernel, by decide +kernel, by decide +kernel⟩, by decide +kernel, fun k hk => ?_,
      by decide +kernel⟩
    · rw [f]
      simp only [List.mem_cons, List.not_mem_nil, or_false, forall_eq_or_imp, forall_eq]
      exact ⟨by decide +kernel, by decide +kernel⟩
    obtain rfl : 500 = k := Option.some.inj (t.symm.trans hk)
    omega
  · exact absurd h (by decide +kernel)

/-- With none in flight and next held, and with four in flight at the journal's next number. -/
theorem witness_OffersFillTheWindow :
    wrapping.journalSound ∧ wrapping.isHeld 0xFFFFFFFF = true ∧ forward 0xFFFFFFFE 0xFFFFFFFF = 1 ∧
      (2 : Seq) = wrapping.nextSeq ∧ forward 0xFFFFFFFC 2 = 5 ∧ seqNext 0xFFFFFFFF = 1 ∧
      liveWindow.journalSound ∧ liveWindow.windowsSound ∧ ∃ t, step liveWindow = .next t :=
  ⟨witness_JournalStaysConsecutive.1, by decide +kernel, by decide, rfl, by decide, by decide, witness_JournalStaysConsecutive.1,
    liveWindow_windowsSound, _, rfl⟩

/-- A receiver of Link A. -/
def receiving (st : RxState) (due : Nat) (frame : List Byte) (timer : Option Nat) : State :=
  { State.reset with chainA := { Chain.cold with rx := { state := st, crc := 0, due := due, frame := frame, timer := timer } } }

theorem witness_ReceiverFollowsItsTable :
    (∀ st, (receiving st 0 [] (some 50)).inReset = false ∧ ((receiving st 0 [] (some 50)).chain .a).rx.state = st ∧
      ((receiving st 0 [] (some 50)).chain .a).rx.timer = some 50) ∧
      (240#8).toNat ≤ 240 ∧ 240 < (241#8).toNat ∧
      ((receiving .header 0 [0] (some 0)).chain .a).rx.frame = [0] ∧ ((receiving .header 0 [0, 1] (some 0)).chain .a).rx.frame = [0, 1] ∧
      ((receiving .check 0 [0, 1, 7] (some 0)).chain .a).rx.frame.length = 3 + (0#8).toNat := by
  refine ⟨fun st => ?_, by decide +kernel⟩
  cases st <;> decide +kernel

/-- For kind READ POINT, and for kind CONFIRM with a body of 4 bytes and of 1. -/
theorem witness_CompleteFrameTakesAPlace :
    (receiving .check 0 [1, 0x30, 7, 16, 0] (some 0)).inReset = false ∧
      ((receiving .check 0 [1, 0x30, 7, 16, 0] (some 0)).chain .a).rx.state = .check ∧
      ((receiving .check 0 [1, 0x30, 7, 16, 0] (some 0)).chain .a).rx.frame = 1 :: 0x30 :: 7 :: ([16] ++ [0]) ∧
      (1#8).toNat = [(16 : Byte)].length ∧
      (0#8 ++ 0#8 : Crc) = ((receiving .check 0 [1, 0x30, 7, 16, 0] (some 0)).chain .a).rx.crc ∧
      (0#8 ++ 1#8 : Crc) ≠ ((receiving .check 0 [1, 0x30, 7, 16, 0] (some 0)).chain .a).rx.crc ∧ (0x30#8) ≠ 0x36 ∧
      (∀ body ∈ ([[0, 0, 7, 0xD1], [0]] : List (List Byte)),
        let s := receiving .check 0 (byte body.length :: 0x36 :: 7 :: (body ++ [0])) (some 0)
        s.inReset = false ∧ (s.chain .a).rx.state = .check ∧ (byte body.length).toNat = body.length ∧
          (0#8 ++ 0#8 : Crc) = (s.chain .a).rx.crc ∧ (pendingOn s (some .a)).session.restartPending = some .a ∧
          (opened s true).session.isOpen .a = true ∧ s.session.isOpen .a = false) := by
  decide +kernel

/-- A report on the line, with the places and the offers given. -/
def sending (places : List Place) (offers : List Offer) : State :=
  { liveA State.reset 1 2 0 none with
    chainA := { (busyA (liveA State.reset 1 2 0 none)).chainA with
      places := places, delivery := { (liveA State.reset 1 2 0 none).chainA.delivery with offers := offers } } }

theorem witness_TransmitEndChoosesTheNextFrame :
    (∀ places ∈ [[], [Place.ready { kind := 0x30, tag := 7, result := .ok, fields := [] }]],
      ∀ offers ∈ [[], [({ seq := 1, isRepeat := true } : Offer)]],
        (sending places offers).inReset = false ∧ ((sending places offers).chain .a).line.isSome = true ∧
          ((replyOnLine ((sending places offers).chain .a).places).map Reply.restarts).getD false = false ∧
          ((sending places offers).chain .a).delivery.offers = offers) ∧
      ((sending [] []).record? 1).isSome = true ∧
      (firstReady (freeOnLine [Place.ready { kind := 0x30, tag := 7, result := .ok, fields := [] }])).isSome = true := by
  decide +kernel

/-- The reply of an accepted RESTART on Link A's line. -/
def restarting (x : PointState) : State :=
  { setup manual x with
    chainA := { Chain.cold with
      places := [.onLine { kind := 0x05, tag := 7, result := .ok, fields := [] }], line := some { bytes := [], elapsed := 0 } } }

theorem witness_WarmRestartRestartsEveryBlock :
    (∀ x ∈ [inService plain, { inService plain with filtered := .abnormal }, { inService prompt with filtered := .abnormal },
        { inService chattering with phase := .suppressed }, { inService plain with phase := .outOfService }, PointState.cold],
      ready (restarting x) = true ∧ (restarting x).point 16 = x) ∧
      ((restarting (inService plain)).chain .a).line = some { bytes := [], elapsed := 0 } ∧
      replyOnLine ((restarting (inService plain)).chain .a).places =
        some { kind := 0x05, tag := 7, result := .ok, fields := [] } := by decide +kernel

theorem witness_ColdResetClearsEverything :
    State.reset.inReset = false ∧ (pressed .test true).inReset = false ∧ (pressed .test true).operator.test.line = true ∧
      (∀ c ∈ [ResetCause.power, .line], (run (.resetAsserted c) State.reset).map (fun t => (t.inReset, t.resetSource)) =
        some (true, c)) ∧
      ((run (.resetAsserted .power) State.reset).bind (run (.resetAsserted .line))).map (·.resetSource) = some .power := by
  decide +kernel

theorem witness_OutputsFollowTheCopies :
    State.reset.inReset = false ∧ (setup manual (standing plain .alert)).lampOn 16 = true ∧
      (setup manual (standing plain .alert)).commonOutput = true ∧ State.reset.lampOn 16 = false := by decide +kernel

theorem witness_HeldMeansARecordIsHeld :
    wrapping.journalSound ∧ wrapping.position 1 = .held ∧ wrapping.position 0xFFFFFFFF = .held ∧ wrapping.position 2 = .next :=
  ⟨witness_JournalStaysConsecutive.1, by decide +kernel, by decide +kernel, by decide +kernel⟩

end Sys2Proof.Tests
end

section
/-! SUPPORT. What the part holds across its commands: definitions, generation, time, line rate and the cause of the last cold
reset, read as one value, and what each operation leaves of it. -/

namespace Sys2Proof.Machine

/-- What the part holds until a command of its own changes it (01 R1, R6, 08 R137, 10 R167, 11 R187). -/
structure Held where
  rate : LineRate
  lastColdReset : ResetCause
  time : Stamp
  generation : BitVec 32
  pointDef : Point → Option PointDef
  groupDef : Group → Option GroupDef

/-- The held values of a state. -/
def State.held (s : State) : Held :=
  { rate := s.rate, lastColdReset := s.session.lastColdReset, time := s.time, generation := s.generation,
    pointDef := fun p => (s.point p).definition, groupDef := fun g => (s.group g).definition }

/-- Equal fields hold equal values. -/
theorem State.held_congr {s t : State} (hr : t.rate = s.rate) (hs : t.session.lastColdReset = s.session.lastColdReset)
    (ht : t.time = s.time) (hg : t.generation = s.generation) (hd : SameDefinitions s t) : t.held = s.held := by
  simp [State.held, hr, hs, ht, hg, hd.1, hd.2]

/-- Nothing but the tables of points and groups, the session unit and the three scalars is held. -/
theorem State.held_of_tables {s t : State} (hr : t.rate = s.rate) (hs : t.session = s.session) (ht : t.time = s.time)
    (hg : t.generation = s.generation) (hp : t.points = s.points) (hk : t.groups = s.groups) : t.held = s.held :=
  State.held_congr hr (by rw [hs]) ht hg (.of_tables hp hk)

/-! ### The updates of the tables -/

theorem State.modifyPoint_held (s : State) (p : Point) (f : PointState → PointState)
    (h : (f (s.point p)).definition = (s.point p).definition) : (s.modifyPoint p f).held = s.held :=
  State.held_congr rfl rfl rfl rfl (.modifyPoint s p f h)

theorem State.modifyGroup_held (s : State) (g : Group) (f : GroupState → GroupState)
    (h : (f (s.group g)).definition = (s.group g).definition) : (s.modifyGroup g f).held = s.held :=
  State.held_congr rfl rfl rfl rfl (.modifyGroup s g f h)

theorem State.modifySession_held (s : State) (f : SessionUnit → SessionUnit)
    (h : (f s.session).lastColdReset = s.session.lastColdReset) : (s.modifySession f).held = s.held :=
  State.held_congr rfl h rfl rfl (.of_tables rfl rfl)

@[simp] theorem State.setChain_held (s : State) (l : Link) (c : Chain) : (s.setChain l c).held = s.held := by
  cases l <;> rfl

@[simp] theorem State.modifyDelivery_held (s : State) (l : Link) (f : Delivery → Delivery) :
    (s.modifyDelivery l f).held = s.held := s.setChain_held l _

@[simp] theorem State.replacePlace_held (s : State) (l : Link) (f : Place → Option Place) :
    (s.replacePlace l f).held = s.held := s.setChain_held l _

@[simp] theorem State.setReceiver_held (s : State) (l : Link) (x : Receiver) : (s.setReceiver l x).held = s.held :=
  s.setChain_held l _

@[simp] theorem State.freeLine_held (s : State) (l : Link) : (s.freeLine l).held = s.held := s.setChain_held l _

@[simp] theorem State.modifyOperator_held (s : State) (f : OperatorUnit → OperatorUnit) :
    (s.modifyOperator f).held = s.held := rfl

@[simp] theorem State.modifyOutput_held (s : State) (f : OutputUnit → OutputUnit) : (s.modifyOutput f).held = s.held := rfl

@[simp] theorem State.modifyEntry_held (s : State) (p : Point) (f : Entry → Entry) : (s.modifyEntry p f).held = s.held := rfl

@[simp] theorem State.dropEntry_held (s : State) (p : Point) : (s.dropEntry p).held = s.held := rfl

@[simp] theorem State.openEntry_held (s : State) (e : Entry) : (s.openEntry e).held = s.held := rfl

@[simp] theorem State.advanceGeneration_held (s : State) :
    s.advanceGeneration.held = { s.held with generation := nextGeneration s.held.generation } := rfl

/-! ### The shared operations -/

@[simp] theorem State.append_held (s : State) (k : RecordKind) (src : Source) (p : Option Point) (g : Option Group) :
    (s.append k src p g).held = s.held :=
  State.held_of_tables (by simp) (by simp) (by simp) (by simp) (by simp) (by simp)

@[simp] theorem State.appendPoint_held (s : State) (k : RecordKind) (src : Source) (p : Point) :
    (s.appendPoint k src p).held = s.held := s.append_held k src _ _

@[simp] theorem State.appendBare_held (s : State) (k : RecordKind) (src : Source) : (s.appendBare k src).held = s.held :=
  s.append_held k src _ _

@[simp] theorem State.startTx_held (s : State) (l : Link) : (s.startTx l).held = s.held :=
  State.held_of_tables (by simp) (by simp) (by simp) (by simp) (by simp) (by simp)

@[simp] theorem State.finish_held (s : State) : s.finish.held = s.held :=
  State.held_of_tables (by simp) (by simp) (by simp) (by simp) (by simp) (by simp)

@[simp] theorem State.setPhase_held (s : State) (p : Point) (ph : Phase) (timer : Option Nat) :
    (s.setPhase p ph timer).held = s.held := s.modifyPoint_held p _ rfl

@[simp] theorem State.tell_held (s : State) (p : Point) (ph : Phase) (mark : Bool) : (s.tell p ph mark).held = s.held :=
  s.modifyPoint_held p (fun x => { x with shownPhase := ph, shownMark := mark }) rfl

@[simp] theorem State.renewLease_held (s : State) (l : Link) : (s.renewLease l).held = s.held := by
  unfold State.renewLease
  split
  · exact s.modifySession_held _ rfl
  · rfl

@[simp] theorem State.lampSources_held (s : State) (src : Source) (f : OutputUnit → OutputUnit) :
    (s.lampSources src f).held = s.held := by
  unfold State.lampSources
  dsimp only
  split <;> simp

/-! ### The sequence engine and the chatter unit -/

@[simp] theorem State.closeEntry_held (s : State) (p : Point) (src : Source) : (s.closeEntry p src).held = s.held := by
  rcases s.closeEntry_cases p src with ⟨-, h⟩ | ⟨e, -, -, h⟩ | ⟨e, -, -, h⟩ <;> rw [h]
  · simp
  · simp
  · rw [State.append_held, State.modifyGroup_held _ _ _ rfl, State.dropEntry_held]

@[simp] theorem State.clearFirstOut_held (s : State) (g : Group) (src : Source) : (s.clearFirstOut g src).1.held = s.held := by
  unfold State.clearFirstOut
  split
  · rfl
  · rw [State.modifyPoint_held _ _ _ rfl, State.append_held, State.modifyEntry_held, State.modifyGroup_held _ _ _ rfl]

@[simp] theorem State.move_held (s : State) (p : Point) (ph : Phase) (timer : Option Nat) (kind : RecordKind) (src : Source)
    (upd : Entry → Entry) : (s.move p ph timer kind src upd).held = s.held := by
  unfold State.move
  dsimp only
  split <;> simp

@[simp] theorem State.openEpisode_held (s : State) (p : Point) (d : PointDef) : (s.openEpisode p d).held = s.held := by
  unfold State.openEpisode
  dsimp only
  split
  · simp [State.modifyGroup_held]
  · simp

@[simp] theorem State.reraise_held (s : State) (p : Point) : (s.reraise p).held = s.held := by
  unfold State.reraise
  split <;> simp

@[simp] theorem State.engineRaise_held (s : State) (p : Point) (d : PointDef) : (s.engineRaise p d).held = s.held := by
  unfold State.engineRaise
  split <;> simp

@[simp] theorem State.engineClear_held (s : State) (p : Point) : (s.engineClear p).held = s.held := by
  unfold State.engineClear
  split <;> simp

@[simp] theorem State.ackPoint_held (s : State) (p : Point) (src : Source) : (s.ackPoint p src).1.held = s.held := by
  unfold State.ackPoint
  split <;> simp

@[simp] theorem State.resetPoint_held (s : State) (p : Point) (src : Source) : (s.resetPoint p src).1.held = s.held := by
  unfold State.resetPoint
  split <;> simp

@[simp] theorem State.raise_held (s : State) (p : Point) (d : PointDef) : (s.raise p d).held = s.held := by
  unfold State.raise State.chatterRaise State.suppress
  repeat' split
  · simp
  · exact s.modifyPoint_held p _ rfl
  · rw [State.engineRaise_held, State.modifyPoint_held _ _ _ rfl]
  · rw [State.move_held, State.modifyPoint_held _ _ _ rfl]

@[simp] theorem State.clear_held (s : State) (p : Point) (d : PointDef) : (s.clear p d).held = s.held := by
  unfold State.clear State.chatterClear
  repeat' split
  · simp
  · exact s.modifyPoint_held p _ rfl
  · simp

@[simp] theorem State.restorePoint_held (s : State) (p : Point) (cause : RestoreCause) (src : Source) :
    (s.restorePoint p cause src).held = s.held := by
  simp [State.restorePoint, State.modifyPoint_held]

/-! ### Qualification -/

@[simp] theorem State.becomeAbnormal_held (s : State) (p : Point) (d : PointDef) : (s.becomeAbnormal p d).held = s.held := by
  simp [State.becomeAbnormal, State.modifyPoint_held]

@[simp] theorem State.becomeNormal_held (s : State) (p : Point) (d : PointDef) : (s.becomeNormal p d).held = s.held := by
  simp [State.becomeNormal, State.modifyPoint_held]

@[simp] theorem State.beginAbnormal_held (s : State) (p : Point) (d : PointDef) : (s.beginAbnormal p d).held = s.held := by
  unfold State.beginAbnormal
  split
  · simp
  · exact s.modifyPoint_held p _ rfl

@[simp] theorem PointState.pause_definition (d : PointDef) (x : PointState) : (x.pause d).definition = x.definition := by
  unfold PointState.pause
  split <;> rfl

theorem State.takeAbnormal_held (s : State) (p : Point) (d : PointDef) : (s.takeAbnormal p d).held = s.held := by
  unfold State.takeAbnormal
  split <;> first | exact s.beginAbnormal_held p d | exact s.modifyPoint_held p _ rfl | rfl

theorem State.takeNormal_held (s : State) (p : Point) (d : PointDef) : (s.takeNormal p d).held = s.held := by
  unfold State.takeNormal
  split
  case h_3 => exact s.modifyPoint_held p _ (PointState.pause_definition d _)
  case h_4 =>
    split
    · exact s.becomeNormal_held p d
    · exact s.modifyPoint_held p _ rfl
  all_goals first | exact s.modifyPoint_held p _ rfl | rfl

@[simp] theorem State.qualify_held (s : State) (p : Point) (d : PointDef) (v : Level) : (s.qualify p d v).held = s.held := by
  cases v
  · exact s.takeNormal_held p d
  · exact s.takeAbnormal_held p d

/-! ### The operator unit, the panel and the links -/

@[simp] theorem State.beginAction_held (s : State) (a : Action) : (s.beginAction a).held = s.held := rfl

@[simp] theorem State.advanceAction_held (s : State) (src : Source) (a : Action) (pos : Option WalkPos) :
    (s.advanceAction src a pos).held = s.held := by
  cases pos
  · unfold State.advanceAction State.completeAction
    dsimp only
    split <;> simp
  · rfl

@[simp] theorem State.silence_held (s : State) (src : Source) : (s.silence src).held = s.held := by
  unfold State.silence
  split <;> simp

@[simp] theorem State.beginPress_held (s : State) (x : Press) : (s.beginPress x).held = s.held := by
  cases x <;> simp [State.beginPress]

@[simp] theorem State.takePanelTransition_held (s : State) (line : PanelLine) (active : Bool) :
    (s.takePanelTransition line active).held = s.held := by
  unfold State.takePanelTransition State.takePress
  repeat' split
  all_goals simp

@[simp] theorem State.confirmFrame_held (s : State) (l : Link) (body : List Byte) : (s.confirmFrame l body).held = s.held := by
  unfold State.confirmFrame
  dsimp only
  repeat' split
  all_goals simp

@[simp] theorem State.takeFrame_held (s : State) (l : Link) (q : Request) : (s.takeFrame l q).held = s.held := by
  unfold State.takeFrame
  repeat' split
  all_goals simp

@[simp] theorem State.retransmissionExpiry_held (s : State) (l : Link) : (s.retransmissionExpiry l).held = s.held := by
  unfold State.retransmissionExpiry
  split <;> simp

theorem PointState.warm_definition (x : PointState) : x.warm.definition = x.definition := by
  simp only [PointState.warm, PointState.quiet, PointState.requalify, PointState.unqualified]
  repeat' split
  all_goals rfl

/-- A warm restart keeps what is held (11 R186). -/
@[simp] theorem State.warmRestart_held (s : State) : s.warmRestart.held = s.held := by
  unfold State.warmRestart
  rw [State.appendBare_held]
  refine State.held_congr rfl rfl rfl rfl ⟨fun p => ?_, fun g => ?_⟩
  · simp [State.point, PointState.warm_definition]
  · simp [State.group]

/-! ### The requests -/

@[simp] theorem State.conclude_held (s : State) (l : Link) (q : Request) (a : Answer) : (s.conclude l q a).held = s.held := by
  cases a <;> simp [State.conclude]

@[simp] theorem State.settle_held (s : State) (l : Link) (k : ReqKind) (a : Answer) : (s.settle l k a).held = s.held := by
  unfold State.settle
  repeat' split
  all_goals simp

@[simp] theorem State.renewFor_held (s : State) (l : Link) (k : ReqKind) : (s.renewFor l k).held = s.held := by
  unfold State.renewFor
  split <;> simp

/-- A request leaves what is held as it was, or as its owner leaves it (10 R174). -/
theorem State.serve_held_cases (s : State) (l : Link) (k : ReqKind) (sel : Request → Bool)
    (act : Request → State → State × Answer) :
    (s.serve l k sel act).held = s.held ∨ ∃ q u, u.held = s.held ∧ (s.serve l k sel act).held = (act q u).1.held := by
  unfold State.serve State.whenRunning
  split
  · exact .inl rfl
  · dsimp only
    split
    · rename_i q _
      rw [State.settle_held, State.conclude_held]
      unfold State.handle
      split
      · exact .inl (s.renewFor_held l k)
      · exact .inr ⟨q, _, s.renewFor_held l k, rfl⟩
    · exact .inl rfl

/-- A request whose owner keeps what is held keeps it. -/
theorem State.serve_held (s : State) (l : Link) (k : ReqKind) (sel : Request → Bool)
    (act : Request → State → State × Answer) (h : ∀ q u, (act q u).1.held = u.held) :
    (s.serve l k sel act).held = s.held := by
  rcases s.serve_held_cases l k sel act with e | ⟨q, u, hu, e⟩
  · exact e
  · rw [e, h, hu]

/-- An event that keeps what is held while the part runs keeps it. -/
theorem State.whenRunning_held (s : State) (f : State → State) (h : (f s).held = s.held) :
    (s.whenRunning f).held = s.held := by
  unfold State.whenRunning
  split
  · rfl
  · exact h

end Sys2Proof.Machine
end

section
/-! SUPPORT. What each command does to the values the part holds, and the two statements about them. -/

namespace Sys2Proof.Machine

/-! ### The owners of the requests -/

theorem State.closeSession_held (s : State) (l : Link) (act : SessionAction) : (s.closeSession l act).held = s.held := by
  unfold State.closeSession State.dropAuthority
  rw [State.appendBare_held, State.modifySession_held _ _ (by cases l <;> rfl)]
  split
  · rw [State.appendBare_held, State.modifySession_held _ _ rfl, State.modifyDelivery_held]
  · simp

theorem State.openSession_held (s : State) (l : Link) : (s.openSession l).held = s.held := by
  unfold State.openSession
  rw [State.appendBare_held, State.modifySession_held _ _ (by cases l <;> rfl)]
  split
  · exact s.closeSession_held l _
  · rfl

theorem State.claimRequest_held (s : State) (l : Link) : (s.claimRequest l).1.held = s.held := by
  unfold State.claimRequest
  split
  · rw [State.appendBare_held, State.modifySession_held _ _ rfl]
  · split
    · exact s.renewLease_held l
    · rfl

theorem State.releaseRequest_held (s : State) (l : Link) : (s.releaseRequest l).1.held = s.held := by
  unfold State.releaseRequest
  split
  · rw [State.appendBare_held, State.modifySession_held _ _ rfl]
  · rfl

theorem State.restartRequest_held (s : State) (l : Link) : (s.restartRequest l).1.held = s.held := by
  unfold State.restartRequest
  split
  · rfl
  · rw [State.setChain_held, State.modifySession_held _ _ rfl]

theorem State.restoreRequest_held (s : State) (l : Link) (p : Option Point) : (s.restoreRequest l p).1.held = s.held := by
  unfold State.restoreRequest State.restoreByRequest
  repeat' split
  all_goals simp

theorem State.operatorRequest_held (s : State) (kind : ActionKind) (l : Link) (tag : Byte) (zeros : List Byte)
    (scope : Option Scope) : (s.operatorRequest kind l tag zeros scope).1.held = s.held := by
  unfold State.operatorRequest
  repeat' split
  all_goals rfl

theorem State.lampTestRequest_held (s : State) (l : Link) (n : Nat) : (s.lampTestRequest l n).1.held = s.held := by
  unfold State.lampTestRequest
  split
  · rfl
  · exact s.lampSources_held _ _

theorem State.subscribeRequest_held (s : State) (l : Link) (start : Option Seq) :
    (s.subscribeRequest l start).1.held = s.held := by
  unfold State.subscribeRequest
  split
  · rfl
  · exact s.modifyDelivery_held l _

theorem State.unsubscribeRequest_held (s : State) (l : Link) : (s.unsubscribeRequest l).1.held = s.held := by
  unfold State.unsubscribeRequest
  dsimp only
  split
  · rfl
  · exact s.modifyDelivery_held l _

/-! ### What a command can do to the held values -/

/-- The changes of the held values, each with the commands that make it (01 R6, R8, R10, R12, R14 to R16, 08 R136 to R138). -/
inductive HeldStep : Instr → Held → Held → Prop where
  | kept (c : Instr) (a : Held) : HeldStep c a a
  | group (l : Link) {c : Instr} (a : Held) (defs : Group → Option GroupDef) (h : c = .defineGroup l ∨ c = .undefineGroup l) :
    HeldStep c a { a with generation := nextGeneration a.generation, groupDef := defs }
  | point (l : Link) {c : Instr} (a : Held) (defs : Point → Option PointDef) (h : c = .definePoint l ∨ c = .undefinePoint l) :
    HeldStep c a { a with generation := nextGeneration a.generation, pointDef := defs }
  | service (l : Link) {c : Instr} (a : Held) (h : c = .setServiceOut l ∨ c = .setServiceIn l) :
    HeldStep c a { a with generation := nextGeneration a.generation }
  | time {c : Instr} (a : Held) (x : Stamp) (h : (∃ l, c = .setTime l) ∨ c = .dayRollover) : HeldStep c a { a with time := x }
  | cold (cause : ResetCause) (rate1 rate0 : Bool) {a b : Held} (h : b.generation = 0) :
    HeldStep (.coldReset cause rate1 rate0) a b

theorem HeldStep.of_eq {c : Instr} {a b : Held} (h : b = a) : HeldStep c a b := h ▸ .kept c a

theorem State.defineGroupRequest_heldStep (s : State) (l : Link) (arg : Option (Group × GroupDef)) :
    HeldStep (.defineGroup l) s.held (s.defineGroupRequest l arg).1.held := by
  unfold State.defineGroupRequest
  split
  · exact .kept _ _
  · split
    · rename_i g d _
      have h : (s.putGroup l g d).held =
          { s.held with
            generation := nextGeneration s.held.generation
            groupDef := (s.modifyGroup g fun x => { x with definition := some d }).held.groupDef } := by
        rw [State.putGroup, State.append_held]; rfl
      exact (congrArg (HeldStep _ _) h).mpr (.group l _ _ (.inl rfl))
    · exact .kept _ _

theorem State.undefineGroupRequest_heldStep (s : State) (l : Link) (arg : Option Group) :
    HeldStep (.undefineGroup l) s.held (s.undefineGroupRequest l arg).1.held := by
  unfold State.undefineGroupRequest
  split
  · exact .kept _ _
  · rename_i g
    have h : (s.removeGroup l g).held =
        { s.held with
          generation := nextGeneration s.held.generation
          groupDef := (s.modifyGroup g fun x => { x with definition := none }).held.groupDef } := by
      rw [State.removeGroup, State.append_held]; rfl
    split
    · exact .kept _ _
    · split
      · exact (congrArg (HeldStep _ _) h).mpr (.group l _ _ (.inr rfl))
      · exact .kept _ _

theorem State.definePointRequest_heldStep (s : State) (l : Link) (arg : Option (Point × PointDef)) :
    HeldStep (.definePoint l) s.held (s.definePointRequest l arg).1.held := by
  unfold State.definePointRequest
  split
  · exact .kept _ _
  · rename_i p d
    have h : (s.putPoint l p d).held =
        { s.held with
          generation := nextGeneration s.held.generation
          pointDef := (s.modifyPoint p (PointState.define d)).held.pointDef } := by
      rw [State.putPoint, State.tell_held, State.appendPoint_held]; rfl
    split
    · exact .kept _ _
    · split
      · exact (congrArg (HeldStep _ _) h).mpr (.point l _ _ (.inl rfl))
      · exact .kept _ _

theorem State.undefinePointRequest_heldStep (s : State) (l : Link) (arg : Option Point) :
    HeldStep (.undefinePoint l) s.held (s.undefinePointRequest l arg).1.held := by
  unfold State.undefinePointRequest
  split
  · exact .kept _ _
  · rename_i p
    have h : (s.removePoint l p).held =
        { s.held with
          generation := nextGeneration s.held.generation
          pointDef := (s.modifyPoint p PointState.undefine).held.pointDef } := by
      rw [State.removePoint, State.tell_held, State.append_held]; rfl
    split
    · exact .kept _ _
    · split
      · exact (congrArg (HeldStep _ _) h).mpr (.point l _ _ (.inr rfl))
      · exact .kept _ _

theorem State.serviceOutRequest_heldStep (s : State) (l : Link) (arg : Option Point) :
    HeldStep (.setServiceOut l) s.held (s.serviceOutRequest l arg).1.held := by
  unfold State.serviceOutRequest
  split
  · exact .kept _ _
  · rename_i p
    have h : (s.takeOut l p).held = { s.held with generation := nextGeneration s.held.generation } := by
      rw [State.takeOut, State.move_held, State.advanceGeneration_held, State.modifyPoint_held _ _ _ rfl]
    repeat' split
    · exact .kept _ _
    · exact .kept _ _
    · exact (congrArg (HeldStep _ _) h).mpr (.service l _ (.inl rfl))

theorem State.serviceInRequest_heldStep (s : State) (l : Link) (arg : Option Point) :
    HeldStep (.setServiceIn l) s.held (s.serviceInRequest l arg).1.held := by
  unfold State.serviceInRequest
  split
  · exact .kept _ _
  · split
    · exact .kept _ _
    · rename_i p _ d _
      have h : (s.putIn l p d).held = { s.held with generation := nextGeneration s.held.generation } := by
        have hq := s.modifyPoint_held p PointState.unqualified rfl
        unfold State.putIn
        split <;> simp [hq]
      repeat' split
      · exact .kept _ _
      · exact (congrArg (HeldStep _ _) h).mpr (.service l _ (.inr rfl))
      · exact .kept _ _

theorem State.setTimeRequest_heldStep (s : State) (l : Link) (arg : Option Stamp) :
    HeldStep (.setTime l) s.held (s.setTimeRequest l arg).1.held := by
  unfold State.setTimeRequest
  split
  · exact .kept _ _
  · rename_i x
    exact (congrArg (HeldStep _ _) (State.appendBare_held _ _ _)).mpr (.time _ x (.inl ⟨l, rfl⟩))

/-- A request changes what is held as its owner does. -/
theorem State.serve_heldStep {c : Instr} (s : State) (l : Link) (k : ReqKind) (sel : Request → Bool)
    (act : Request → State → State × Answer) (h : ∀ q u, HeldStep c u.held (act q u).1.held) :
    HeldStep c s.held (s.serve l k sel act).held := by
  rcases s.serve_held_cases l k sel act with e | ⟨q, u, hu, e⟩
  · exact .of_eq e
  · rw [e, ← hu]
    exact h q u

/-- SET TIME changes the time alone, whatever its body reads as. -/
theorem State.serve_setTime_heldStep (s : State) (l : Link) (parse : Request → Option Stamp) :
    HeldStep (.setTime l) s.held (s.serve l .setTime anyRequest fun q u => u.setTimeRequest l (parse q)).held :=
  s.serve_heldStep _ _ _ _ fun q u => u.setTimeRequest_heldStep l (parse q)

/-- What any command does to the held values. -/
theorem exec_heldStep {c : Instr} {s t : State} (h : exec c s = .next t) : HeldStep c s.held t.held := by
  cases c with
  | coldReset cause rate1 rate0 =>
    cases h
    refine .cold cause rate1 rate0 ?_
    split
    · rw [State.appendBare_held]; rfl
    · rfl
  | inputLineChange p active =>
    cases h
    refine .of_eq ?_
    dsimp only
    repeat' split
    · rfl
    · exact s.modifyPoint_held p _ rfl
    · rw [State.modifyPoint_held _ _ _ (by unfold PointState.follow; split <;> rfl), State.modifyPoint_held _ _ _ rfl]
    · exact s.modifyPoint_held p _ rfl
  | resetAsserted cause => cases h; exact .kept _ _
  | panelLineChange line active =>
    cases h
    refine .of_eq ?_
    dsimp only
    split <;> rfl
  | dayRollover =>
    cases h
    unfold State.whenRunning
    dsimp only
    repeat' split
    · exact .kept _ _
    · exact .time _ _ (.inr rfl)
    · exact .kept _ _
  | leaseExpiry =>
    cases h
    refine .of_eq (State.whenRunning_held _ _ ?_)
    split
    · rw [State.finish_held, State.appendBare_held, State.modifySession_held _ _ rfl]
    · rfl
  | filteredTransition p | onDelayExpiry p | offDelayExpiry p | accumulationExpiry p | forgetTimerExpiry p | restartRaise p
  | realertExpiry p | chatterWindowExpiry p | restoreTimerExpiry p =>
    cases h
    refine .of_eq (State.whenRunning_held _ _ ?_)
    repeat' split
    all_goals simp [State.modifyPoint_held]
  | patternCycleWrap | lampTestHostExpiry | panelFilteredTransition line | panelPressBegin =>
    cases h
    refine .of_eq (State.whenRunning_held _ _ ?_)
    repeat' split
    all_goals simp
  | ackWalkEvent src | resetGroupExamine src | resetMemberEvent src | firstOutClearing src =>
    cases h
    refine .of_eq (State.whenRunning_held _ _ ?_)
    simp only [State.ackWalk, State.examineGroup, State.resetMember, State.clearingStage]
    repeat' split
    all_goals simp
  | retransmissionExpiry l | interByteTimeout l | confirm l body | unknownKindRequest l =>
    cases h
    refine .of_eq (State.whenRunning_held _ _ ?_)
    repeat' split
    all_goals simp
  | byteArrival l data stopGood =>
    cases h
    refine .of_eq (State.whenRunning_held _ _ ?_)
    dsimp only
    repeat' split
    all_goals simp
  | transmitEnd l =>
    cases h
    refine .of_eq (State.whenRunning_held _ _ ?_)
    dsimp only
    split
    · rfl
    · rw [State.startTx_held]
      split <;> simp
  | hello l => cases h; exact .of_eq (s.serve_held _ _ _ _ fun _ u => u.openSession_held l)
  | bye l => cases h; exact .of_eq (s.serve_held _ _ _ _ fun _ u => u.closeSession_held l _)
  | claim l => cases h; exact .of_eq (s.serve_held _ _ _ _ fun _ u => u.claimRequest_held l)
  | release l => cases h; exact .of_eq (s.serve_held _ _ _ _ fun _ u => u.releaseRequest_held l)
  | restart l => cases h; exact .of_eq (s.serve_held _ _ _ _ fun _ u => u.restartRequest_held l)
  | defineGroup l => cases h; exact s.serve_heldStep _ _ _ _ fun _ u => u.defineGroupRequest_heldStep l _
  | undefineGroup l => cases h; exact s.serve_heldStep _ _ _ _ fun _ u => u.undefineGroupRequest_heldStep l _
  | definePoint l => cases h; exact s.serve_heldStep _ _ _ _ fun _ u => u.definePointRequest_heldStep l _
  | undefinePoint l => cases h; exact s.serve_heldStep _ _ _ _ fun _ u => u.undefinePointRequest_heldStep l _
  | setServiceOut l => cases h; exact s.serve_heldStep _ _ _ _ fun _ u => u.serviceOutRequest_heldStep l _
  | setServiceIn l => cases h; exact s.serve_heldStep _ _ _ _ fun _ u => u.serviceInRequest_heldStep l _
  | setTime l => cases h; exact s.serve_setTime_heldStep l fun q => timeArg q.body
  | restore l => cases h; exact .of_eq (s.serve_held _ _ _ _ fun _ u => u.restoreRequest_held l _)
  | ack l => cases h; exact .of_eq (s.serve_held _ _ _ _ fun _ u => u.operatorRequest_held _ l _ _ _)
  | reset l => cases h; exact .of_eq (s.serve_held _ _ _ _ fun _ u => u.operatorRequest_held _ l _ _ _)
  | silence l => cases h; exact .of_eq (s.serve_held _ _ _ _ fun _ u => u.silence_held _)
  | lampTest l => cases h; exact .of_eq (s.serve_held _ _ _ _ fun _ u => u.lampTestRequest_held l _)
  | subscribe l => cases h; exact .of_eq (s.serve_held _ _ _ _ fun _ u => u.subscribeRequest_held l _)
  | unsubscribe l => cases h; exact .of_eq (s.serve_held _ _ _ _ fun _ u => u.unsubscribeRequest_held l)
  | readStatus l => cases h; exact .of_eq (s.serve_held _ _ _ _ fun _ _ => rfl)
  | readPoint l | readGroup l | readList l =>
    cases h
    exact .of_eq (s.serve_held _ _ _ _ fun _ _ => by split <;> rfl)
  | readJournal l =>
    cases h
    refine .of_eq (s.serve_held _ _ _ _ fun _ u => ?_)
    generalize inRange _ _ _ = most, u.journalStart _ = start
    cases most <;> cases start <;> rfl

/-! ### The statements -/

/-- Settles O10: of the changes of the held values, only those of the six configuration requests advance the generation, and
only a cold reset sets it to 0. -/
theorem generationCountsChanges : Obligations.GenerationCountsChanges := by
  intro c s t h
  have hs := exec_heldStep h
  change t.held.generation = s.held.generation ∨ _ ∧ t.held.generation = nextGeneration s.held.generation ∨
    _ ∧ t.held.generation = 0
  generalize s.held = a at hs ⊢
  generalize t.held = b at hs ⊢
  cases hs with
  | kept => exact .inl rfl
  | group l _ _ hc => exact .inr (.inl ⟨⟨l, by tauto⟩, rfl⟩)
  | point l _ _ hc => exact .inr (.inl ⟨⟨l, by tauto⟩, rfl⟩)
  | service l _ hc => exact .inr (.inl ⟨⟨l, by tauto⟩, rfl⟩)
  | time => exact .inl rfl
  | cold cause rate1 rate0 hb => exact .inr (.inr ⟨⟨cause, rate1, rate0, rfl⟩, hb⟩)

/-- Settles O11: each change of the held values names the part it changes and the commands that make it. -/
theorem heldStateChangesOnlyByItsCommands : Obligations.HeldStateChangesOnlyByItsCommands := by
  intro c s t h hc
  have hs := exec_heldStep h
  change t.held.rate = s.held.rate ∧ t.held.lastColdReset = s.held.lastColdReset ∧
    (_ → ∀ p, t.held.pointDef p = s.held.pointDef p) ∧ (_ → ∀ g, t.held.groupDef g = s.held.groupDef g) ∧
    (_ → _ → t.held.time = s.held.time)
  generalize s.held = a at hs ⊢
  generalize t.held = b at hs ⊢
  cases hs with
  | kept => simp
  | group l _ _ h => exact ⟨rfl, rfl, fun _ _ => rfl, fun n => absurd h (by have := n l; tauto), fun _ _ => rfl⟩
  | point l _ _ h => exact ⟨rfl, rfl, fun n => absurd h (by have := n l; tauto), fun _ _ => rfl, fun _ _ => rfl⟩
  | service => simp
  | time _ _ h => exact ⟨rfl, rfl, fun _ _ => rfl, fun _ _ => rfl, fun n m => by
      rcases h with ⟨l, h⟩ | h
      · exact absurd h (n l)
      · exact absurd h m⟩
  | cold cause rate1 rate0 => exact absurd rfl (hc cause rate1 rate0)

end Sys2Proof.Machine
end

section
/-! SUPPORT. The walks of a RESET: how a walk goes on or completes, and the statements about its three events. -/

namespace Sys2Proof.Machine

/-! ### Chains whose delivery alone has changed -/

/-- From `c` to `d` only the delivery has changed, and neither its state nor its retry count. -/
structure DeliveryOnly (c d : Chain) : Prop where
  rx : d.rx = c.rx
  places : d.places = c.places
  line : d.line = c.line
  undisturbed : Undisturbed c d

theorem DeliveryOnly.of_eq {c d : Chain} (h : d = c) : DeliveryOnly c d := by
  subst h
  exact ⟨rfl, rfl, rfl, .rfl' _⟩

theorem DeliveryOnly.trans {c d e : Chain} (h : DeliveryOnly c d) (k : DeliveryOnly d e) : DeliveryOnly c e :=
  ⟨k.rx.trans h.rx, k.places.trans h.places, k.line.trans h.line, h.undisturbed.trans k.undisturbed⟩

/-- An append changes of a chain the delivery alone (08 R145). -/
theorem State.append_deliveryOnly (s : State) (k : RecordKind) (src : Source) (p : Option Point) (g : Option Group)
    (m : Link) : DeliveryOnly (s.chain m) ((s.append k src p g).chain m) := by
  obtain ⟨hr, hp, hl⟩ := s.append_chain k src p g m
  exact ⟨hr, hp, hl, s.append_undisturbed k src p g m⟩

/-! ### The next position of a walk -/

theorem afterMember_eq (g : Group) (p : Point) : afterMember g p = memberNext g p := by
  unfold afterMember memberNext nextPoint asPoint
  split <;> rfl

theorem afterGroup_eq (scope : Scope) (g : Group) : afterGroup scope g = resetNext scope g := by
  cases scope with
  | all =>
    simp only [afterGroup, resetNext, nextGroup, asGroup]
    split <;> rfl
  | group _ => rfl
  | point _ => rfl

theorem Action.lastReply_eq (a : Action) (tag : Byte) : a.lastReply tag = a.reply tag := by
  unfold Action.lastReply Action.reply
  cases a.kind <;> rfl

/-! ### Going on and completing -/

/-- An action completes: its slot is emptied, and the chains are as a reply to its link leaves them (05 R88). -/
theorem State.completeAction_operator (s : State) (src : Source) (a : Action) :
    (s.completeAction src a).operator = s.operator.setSlot src none := by
  unfold State.completeAction
  dsimp only
  split <;> simp [State.modifyOperator]

theorem State.completeAction_link (s : State) {l : Link} {a : Action} {tag : Byte} (h : a.tag = some tag) :
    s.completeAction (linkSource l) a =
      (s.modifyOperator fun u => u.setSlot (linkSource l) none).replacePlace l (Place.completeWith (a.reply tag)) := by
  cases l <;> simp [State.completeAction, linkSource, sourceLink?, h]

/-- The end of an event that has put a reply into the queue of a link whose chain was otherwise left as it was. -/
theorem State.finish_shows_of {s u : State} {l : Link} {places : List Place} (hr : (u.chain l).rx = (s.chain l).rx)
    (hl : (u.chain l).line = (s.chain l).line) (hp : (u.chain l).places = places)
    (h : (firstReady places).isSome = true) : Shows (s.chain l) (u.finish.chain l) places := by
  have hs := (u.finish_shows l (by rw [hp]; exact h)).1
  unfold Shows at hs ⊢
  rwa [hr, hl, hp] at hs

/-- An event of a walk that reads the operator unit and the queues as they stood goes on, or completes (05 R95 to R98). -/
theorem State.advanceAction_walks {s u : State} (src : Source) (a : Action) (pos : Option WalkPos)
    (ho : u.operator = s.operator) (hc : ∀ m, DeliveryOnly (s.chain m) (u.chain m)) :
    Walks s (u.advanceAction src a pos).finish src a pos := by
  have still : ∀ v : State, (∀ m, v.chain m = u.chain m) → ∀ m, Undisturbed (s.chain m) (v.finish.chain m) := fun v hv m =>
    (hc m).undisturbed.trans (.trans (.of_eq (hv m)) (v.finish_undisturbed m))
  cases pos with
  | some pos => exact ⟨by simp [State.advanceAction, State.modifyOperator, ho], still _ fun m => by simp [State.advanceAction]⟩
  | none =>
    refine ⟨by simp [State.advanceAction, State.completeAction_operator, ho], ?_, ?_⟩
    · rintro rfl
      exact still _ fun m => by simp [State.advanceAction, State.completeAction, sourceLink?]
    · rintro l tag rfl ht hready
      rw [Action.lastReply_eq] at hready ⊢
      have hv : u.advanceAction (linkSource l) a none = _ := u.completeAction_link ht
      rw [hv]
      refine ⟨State.finish_shows_of ?_ ?_ ?_ hready, ?_⟩
      · simpa [State.replacePlace] using (hc l).rx
      · simpa [State.replacePlace] using (hc l).line
      · simp [State.replacePlace, (hc l).places]
      · refine (hc _).undisturbed.trans (.trans (.of_eq ?_) (State.finish_undisturbed _ _))
        rw [State.replacePlace_other _ _ (otherLink_ne l), State.modifyOperator_chain]

/-- Advancing an action touches nothing but the operator unit and the chains. -/
theorem State.advanceAction_frame (s : State) (src : Source) (a : Action) (pos : Option WalkPos) :
    s.advanceAction src a pos =
      { s with operator := (s.advanceAction src a pos).operator, chainA := (s.advanceAction src a pos).chainA,
               chainB := (s.advanceAction src a pos).chainB } := by
  cases pos with
  | some pos => rfl
  | none =>
    unfold State.advanceAction State.completeAction
    dsimp only
    split <;> exact State.eq_of_fields (by simp)

@[simp] theorem State.advanceAction_pending (s : State) (src : Source) (a : Action) (pos : Option WalkPos) :
    (s.advanceAction src a pos).pending = s.pending := by rw [State.advanceAction_frame]

@[simp] theorem State.advanceAction_supply (s : State) (src : Source) (a : Action) (pos : Option WalkPos) :
    (s.advanceAction src a pos).supply = s.supply := by rw [State.advanceAction_frame]

@[simp] theorem State.advanceAction_rstnActive (s : State) (src : Source) (a : Action) (pos : Option WalkPos) :
    (s.advanceAction src a pos).rstnActive = s.rstnActive := by rw [State.advanceAction_frame]

@[simp] theorem State.advanceAction_resetSource (s : State) (src : Source) (a : Action) (pos : Option WalkPos) :
    (s.advanceAction src a pos).resetSource = s.resetSource := by rw [State.advanceAction_frame]

@[simp] theorem State.advanceAction_rate (s : State) (src : Source) (a : Action) (pos : Option WalkPos) :
    (s.advanceAction src a pos).rate = s.rate := by rw [State.advanceAction_frame]

@[simp] theorem State.advanceAction_points (s : State) (src : Source) (a : Action) (pos : Option WalkPos) :
    (s.advanceAction src a pos).points = s.points := by rw [State.advanceAction_frame]

@[simp] theorem State.advanceAction_groups (s : State) (src : Source) (a : Action) (pos : Option WalkPos) :
    (s.advanceAction src a pos).groups = s.groups := by rw [State.advanceAction_frame]

@[simp] theorem State.advanceAction_generation (s : State) (src : Source) (a : Action) (pos : Option WalkPos) :
    (s.advanceAction src a pos).generation = s.generation := by rw [State.advanceAction_frame]

@[simp] theorem State.advanceAction_alarmList (s : State) (src : Source) (a : Action) (pos : Option WalkPos) :
    (s.advanceAction src a pos).alarmList = s.alarmList := by rw [State.advanceAction_frame]

@[simp] theorem State.advanceAction_journal (s : State) (src : Source) (a : Action) (pos : Option WalkPos) :
    (s.advanceAction src a pos).journal = s.journal := by rw [State.advanceAction_frame]

@[simp] theorem State.advanceAction_nextSeq (s : State) (src : Source) (a : Action) (pos : Option WalkPos) :
    (s.advanceAction src a pos).nextSeq = s.nextSeq := by rw [State.advanceAction_frame]

@[simp] theorem State.advanceAction_time (s : State) (src : Source) (a : Action) (pos : Option WalkPos) :
    (s.advanceAction src a pos).time = s.time := by rw [State.advanceAction_frame]

@[simp] theorem State.advanceAction_output (s : State) (src : Source) (a : Action) (pos : Option WalkPos) :
    (s.advanceAction src a pos).output = s.output := by rw [State.advanceAction_frame]

@[simp] theorem State.advanceAction_session (s : State) (src : Source) (a : Action) (pos : Option WalkPos) :
    (s.advanceAction src a pos).session = s.session := by rw [State.advanceAction_frame]

@[simp] theorem State.advanceAction_choices (s : State) (src : Source) (a : Action) (pos : Option WalkPos) :
    (s.advanceAction src a pos).choices = s.choices := by rw [State.advanceAction_frame]

@[simp] theorem State.advanceAction_point (s : State) (src : Source) (a : Action) (pos : Option WalkPos) (y : Point) :
    (s.advanceAction src a pos).point y = s.point y := State.point_congr (by simp) y

@[simp] theorem State.advanceAction_group (s : State) (src : Source) (a : Action) (pos : Option WalkPos) (y : Group) :
    (s.advanceAction src a pos).group y = s.group y := State.group_congr (by simp) y

/-- An event that goes on and does nothing else. -/
theorem State.advanceAction_only (s : State) (src : Source) (a : Action) (pos : Option WalkPos) :
    (s.advanceAction src a pos).finish =
        { s with operator := (s.advanceAction src a pos).finish.operator,
                 chainA := (s.advanceAction src a pos).finish.chainA,
                 chainB := (s.advanceAction src a pos).finish.chainB } ∧
      Walks s (s.advanceAction src a pos).finish src a pos :=
  ⟨State.eq_of_fields (by simp), State.advanceAction_walks src a pos rfl fun _ => .of_eq rfl⟩

/-! ### The events of a RESET walk -/

theorem exec_resetGroupExamine {s : State} {src : Source} {a : Action} {g : Group} (hr : s.inReset = false)
    (ha : s.operator.slot src = some a) (hp : a.pos = .examine g) :
    exec (.resetGroupExamine src) s = .next (s.examineGroup src a g).finish := by
  simp [exec, execResetGroupExamine, State.whenRunning, hr, ha, hp]

theorem exec_resetMemberEvent {s : State} {src : Source} {a : Action} {g : Group} {p : Point} (hr : s.inReset = false)
    (ha : s.operator.slot src = some a) (hp : a.pos = .member g p) :
    exec (.resetMemberEvent src) s = .next (s.resetMember src a g p).finish := by
  simp [exec, execResetMemberEvent, State.whenRunning, hr, ha, hp]

theorem exec_firstOutClearing {s : State} {src : Source} {a : Action} {g : Group} (hr : s.inReset = false)
    (ha : s.operator.slot src = some a) (hp : a.pos = .clearing g) :
    exec (.firstOutClearing src) s = .next (s.clearingStage src a g).finish := by
  simp [exec, execFirstOutClearing, State.whenRunning, hr, ha, hp]

/-- A per-point RESET changes a point in WAIT_RESET or RINGBACK (03 R56). -/
theorem State.resetPoint_changes {s : State} {p : Point} (src : Source) (h : (s.point p).phase ∈ [.waitReset, .ringback]) :
    s.resetPoint p src = (s.move p .normal none (.resetPoint .normal) src id, true) := by
  simp only [List.mem_cons, List.not_mem_nil, or_false] at h
  rcases h with h | h <;> simp [State.resetPoint, h]

/-- In the other phases a per-point RESET changes nothing (03 R56). -/
theorem State.resetPoint_idle {s : State} {p : Point} (src : Source) (hw : (s.point p).phase ≠ .waitReset)
    (hb : (s.point p).phase ≠ .ringback) : s.resetPoint p src = (s, false) := by
  unfold State.resetPoint
  split
  · exact absurd ‹_› hw
  · exact absurd ‹_› hb
  all_goals rfl

/-- A member that is not reset is passed over (05 R97; log 14, 31). -/
theorem State.resetMember_passes {s : State} {src : Source} {a : Action} {g : Group} {p : Point}
    (h : ¬ Permitted s g src ∨ s.groupOf p ≠ some g ∨ ((s.point p).phase ≠ .waitReset ∧ (s.point p).phase ≠ .ringback)) :
    s.resetMember src a g p = s.advanceAction src a (some (memberNext g p)) := by
  unfold State.resetMember
  split
  · rename_i hm
    obtain ⟨hw, hb⟩ : (s.point p).phase ≠ .waitReset ∧ (s.point p).phase ≠ .ringback := by
      rw [Permitted.iff_groupPermits] at h
      tauto
    simp [State.resetPoint_idle src hw hb]
  · rfl

/-- A member in WAIT_RESET or RINGBACK of a group that permits the source is reset and counted (05 R97). -/
theorem State.resetMember_resets {s : State} {src : Source} {a : Action} {g : Group} {p : Point} (hg : s.groupOf p = some g)
    (hs : Permitted s g src) (h : (s.point p).phase ∈ [.waitReset, .ringback]) :
    s.resetMember src a g p =
      (s.move p .normal none (.resetPoint .normal) src id).advanceAction src
        { a with pointsChanged := a.pointsChanged + 1 } (some (memberNext g p)) := by
  simp [State.resetMember, hg, (Permitted.iff_groupPermits s g src).mp hs, State.resetPoint_changes src h]

/-- Going on with a walk leaves a closing phase change as it is. -/
theorem Closes.advanceAction {s t : State} {p : Point} {ph : Phase} {timer : Option Nat} {item : Item} {src : Source}
    (h : Closes s t p ph timer item src) (a : Action) (pos : WalkPos) :
    let v := (t.advanceAction src a (some pos)).finish
    v.point p = (s.point p).moved ph timer false ∧ OnlyPoint s v p ∧ v.alarmList = closed s.alarmList p ∧
      (∀ e, s.entry? p = some e → OnlyGroup s v e.group ∧
        v.group e.group = { s.group e.group with firstOut := if e.firstOut then .none else (s.group e.group).firstOut } ∧
        (s.journal.length ≤ Config.journalCapacity → Grows s v (item :: goneItems e src))) ∧
      Latched s v (s.audible p && decide (ph = .alert)) (s.audible p && decide (ph = .ringback)) ∧
      (t.operator = s.operator → Walks s v src a (some pos)) := by
  refine ⟨by simpa using h.point, fun q hq => by simpa using h.others q hq, by simpa using h.list, fun e he => ?_,
    h.latches.of_output (by simp) (by simp) (by simp), fun ho => ?_⟩
  · obtain ⟨honly, hgroup, hgrows⟩ := h.anEntry e he
    exact ⟨fun k hk => by simpa using honly k hk, by simpa using hgroup, fun hj => by simpa [Grows] using hgrows hj⟩
  · exact ⟨by simp [State.advanceAction, State.modifyOperator, ho], fun l =>
      (h.chains l).trans (.trans (.of_eq (by simp [State.advanceAction])) (State.finish_undisturbed _ l))⟩

/-- Settles O31: the examination of a group and the event of a point that is not reset go on and do nothing else; the event of a
member that is reset is a phase change out of an episode, and then goes on. -/
theorem resetWalkResetsMembers : Obligations.ResetWalkResetsMembers := by
  intro src s a g hr hj ha
  refine ⟨fun hp hs => ⟨_, exec_resetGroupExamine hr ha hp, ?_⟩, fun hp hs => ⟨_, exec_resetGroupExamine hr ha hp, ?_⟩,
    fun p hp hs => ⟨_, exec_resetMemberEvent hr ha hp, ?_⟩, fun p d e hp hs hd hg hph he => ⟨_, exec_resetMemberEvent hr ha hp, ?_⟩⟩
  · rw [State.examineGroup, if_pos ((Permitted.iff_groupPermits s g src).mp hs)]
    exact s.advanceAction_only src a _
  · rw [State.examineGroup, if_neg (mt (Permitted.iff_groupPermits s g src).mpr hs), afterGroup_eq]
    exact s.advanceAction_only src a _
  · rw [State.resetMember_passes hs, afterMember_eq]
    exact s.advanceAction_only src a _
  · have hgrp : s.groupOf p = some g := by simp [State.groupOf, hd, hg]
    have hc := s.move_closes p .normal none (.resetPoint .normal) src id rfl
    have hop : (s.move p .normal none (.resetPoint .normal) src id).operator = s.operator := by rw [hc.frame]
    rw [State.resetMember_resets hgrp hs hph, afterMember_eq]
    obtain ⟨hpoint, hothers, hlist, hentry, hlatch, hwalk⟩ :=
      hc.advanceAction { a with pointsChanged := a.pointsChanged + 1 } (memberNext g p)
    obtain ⟨honly, hgroup, hgrows⟩ := hentry e he
    refine ⟨hothers, honly, ?_, hwalk hop, hpoint, hlist, hgroup, ?_, by simpa using hlatch⟩
    · rw [hc.frame]
      exact State.eq_of_fields (by simp)
    · simpa [hgrp] using hgrows hj

/-! ### The clearing of a group's mark -/

/-- The clearing of a mark that is present (04 R79): the group, the entry, the record, the output unit's copy. -/
def State.clearMark (s : State) (g : Group) (p : Point) (src : Source) : State :=
  (((s.modifyGroup g fun x => { x with firstOut := none }).modifyEntry p fun e => { e with firstOut := false }).append
    (.firstOutCleared .reset) src (some p) (some g)).modifyPoint p fun x => { x with shownMark := false }

theorem State.clearFirstOut_some {s : State} {g : Group} {p : Point} (src : Source) (h : (s.group g).firstOut = some p) :
    s.clearFirstOut g src = (s.clearMark g p src, true) := by
  simp [State.clearFirstOut, h, State.clearMark]

theorem State.clearMark_deliveryOnly (s : State) (g : Group) (p : Point) (src : Source) (m : Link) :
    DeliveryOnly (s.chain m) ((s.clearMark g p src).chain m) := by
  simpa [State.clearMark] using State.append_deliveryOnly
    ((s.modifyGroup g fun x => { x with firstOut := none }).modifyEntry p fun e => { e with firstOut := false })
    (.firstOutCleared .reset) src (some p) (some g) m

theorem State.clearMark_grows (s : State) (g : Group) (p : Point) (src : Source)
    (hj : s.journal.length ≤ Config.journalCapacity) :
    Grows s (s.clearMark g p src) [(.firstOutCleared .reset, src, some p, some g)] :=
  Grows.single s (u := (s.modifyGroup g fun x => { x with firstOut := none }).modifyEntry p fun e => { e with firstOut := false })
    hj rfl rfl rfl rfl rfl rfl

/-- A clearing that is not permitted or finds no mark is passed over (05 R97, 04 R79; log 31). -/
theorem State.clearingStage_passes {s : State} {src : Source} {a : Action} {g : Group}
    (h : ¬ Permitted s g src ∨ (s.group g).firstOut = none) :
    s.clearingStage src a g = s.advanceAction src a (afterGroup a.scope g) := by
  rw [Permitted.iff_groupPermits] at h
  rw [afterGroup_eq, State.clearingStage]
  split
  · have hn : (s.group g).firstOut = none := by tauto
    simp [State.clearFirstOut, hn]
  · rfl

/-- A clearing that is permitted and finds a mark clears and counts it (05 R97, 04 R79). -/
theorem State.clearingStage_clears {s : State} {src : Source} {a : Action} {g : Group} {p : Point}
    (hs : Permitted s g src) (hf : (s.group g).firstOut = some p) :
    s.clearingStage src a g =
      (s.clearMark g p src).advanceAction src { a with marksCleared := a.marksCleared + 1 } (afterGroup a.scope g) := by
  simp [State.clearingStage, (Permitted.iff_groupPermits s g src).mp hs, State.clearFirstOut_some src hf, afterGroup_eq]

/-- Settles O32: a mark that is present and permitted is cleared, anything else is passed over. -/
theorem resetClearsTheFirstOutMark : Obligations.ResetClearsTheFirstOutMark := by
  intro src s a g hr hj ha hp
  refine ⟨_, exec_firstOutClearing hr ha hp, ?_⟩
  by_cases h : ¬ Permitted s g src ∨ (s.group g).firstOut = none
  · have hgoes := s.advanceAction_only src a (afterGroup a.scope g)
    rw [State.clearingStage_passes h]
    refine ⟨fun k _ => by simp, State.eq_of_fields (by simp), fun p hs hf => ?_, fun _ => hgoes⟩
    rcases h with h | h
    · exact absurd hs h
    · simp [h] at hf
  · obtain ⟨hs, p, hf⟩ : Permitted s g src ∧ ∃ p, (s.group g).firstOut = some p := by
      rw [← Option.ne_none_iff_exists']
      tauto
    have hwalk := State.advanceAction_walks (s := s) (u := s.clearMark g p src) src
      { a with marksCleared := a.marksCleared + 1 } (afterGroup a.scope g) (by simp [State.clearMark])
      (s.clearMark_deliveryOnly g p src)
    have hgrows := s.clearMark_grows g p src hj
    rw [State.clearingStage_clears hs hf]
    refine ⟨fun k hk => by simp [State.clearMark, State.group_modifyGroup, hk], ?_, fun q _ hq => ?_, fun n => absurd n h⟩
    · exact State.eq_of_fields (by simp [State.clearMark])
    · obtain rfl : p = q := by simpa [hf] using hq
      refine ⟨by simp [State.clearMark], fun q hq => by simp [State.clearMark, State.point_modifyPoint, hq],
        by simp [State.clearMark], by simp [State.clearMark, State.modifyEntry, mirrored], hwalk, by simpa [Grows] using hgrows⟩

end Sys2Proof.Machine
end

section
/-! SUPPORT. Events that append several records: the journal, the deliveries' drops, and the requests that end in them. -/

namespace Sys2Proof.Machine

/-! ### Records one after the other -/

theorem seqAfter_add (a b : Nat) (n : Seq) : seqAfter (a + b) n = seqAfter b (seqAfter a n) := by
  induction a generalizing n with
  | zero => simp [seqAfter]
  | succ a ih => rw [Nat.add_right_comm]; exact ih (seqNext n)

theorem recordsFrom_append (n : Seq) (stamp : Stamp) (xs ys : List Item) :
    recordsFrom n stamp (xs ++ ys) = recordsFrom n stamp xs ++ recordsFrom (seqAfter xs.length n) stamp ys := by
  induction xs generalizing n with
  | nil => rfl
  | cons x xs ih =>
    obtain ⟨k, src, p, g⟩ := x
    simp [recordsFrom, ih, seqAfter]

theorem recordsFrom_length (n : Seq) (stamp : Stamp) (xs : List Item) : (recordsFrom n stamp xs).length = xs.length := by
  induction xs generalizing n with
  | nil => rfl
  | cons x xs ih =>
    obtain ⟨k, src, p, g⟩ := x
    simp [recordsFrom, ih]

theorem newest_length (j : List Record) : (newest j).length = min j.length Config.journalCapacity := by
  simp only [newest, List.length_drop]
  omega

/-- What has been dropped once stays dropped (08 R145). -/
theorem newest_append (a b : List Record) : newest (newest a ++ b) = newest (a ++ b) := by
  have hk : a.length - Config.journalCapacity ≤ a.length := Nat.sub_le _ _
  simp only [newest, List.length_append, List.length_drop]
  rw [← List.drop_append_of_le_length hk, List.drop_drop]
  exact congrArg (List.drop · (a ++ b)) (by omega)

/-- An event that grows the journal twice grows it by both (08 R140, R143). -/
theorem Grows.trans {s u v : State} {xs ys : List Item} (h : Grows s u xs) (k : Grows u v ys) (ht : v.time = u.time) :
    Grows s v (xs ++ ys) := by
  obtain ⟨hj, hn⟩ := h
  obtain ⟨kj, kn⟩ := k
  refine ⟨?_, by rw [kn, hn, List.length_append, seqAfter_add]⟩
  rw [kj, hj, hn, newest_append, List.append_assoc, recordsFrom_append, ht]

/-! ### The drops of an event -/

/-- A delivery after the drops of the records for which an event of `n` records leaves no room (09 R163). -/
def State.dropped (s : State) (n : Nat) (d : Delivery) : Delivery :=
  (s.journal.take (s.journal.length + n - Config.journalCapacity)).foldl (fun d r => d.drop r.seq) d

theorem State.reported_eq (s t : State) (n : Nat) (d : Delivery) :
    s.reported t n d = (s.dropped n d).offerUpTo t.isHeld Config.deliveryWindow := rfl

theorem Delivery.foldl_drop_state (j : List Record) (d : Delivery) :
    (j.foldl (fun d r => Delivery.drop r.seq d) d).state = d.state := by
  induction j generalizing d with
  | nil => rfl
  | cons r j ih => simp [ih]

theorem Delivery.foldl_drop_retry (j : List Record) (d : Delivery) :
    (j.foldl (fun d r => Delivery.drop r.seq d) d).retry = d.retry := by
  induction j generalizing d with
  | nil => rfl
  | cons r j ih => simp [ih]

/-- From `s` to `u` these records are appended, and nothing happens to the chains but the drops they cause (08 R143, R145). -/
structure Appends (s u : State) (items : List Item) : Prop where
  bound : s.journal.length ≤ Config.journalCapacity
  grows : Grows s u items
  chain : ∀ m, u.chain m = { s.chain m with delivery := s.dropped items.length (s.chain m).delivery }

theorem Appends.nothing {s u : State} (hb : s.journal.length ≤ Config.journalCapacity) (hj : u.journal = s.journal)
    (hn : u.nextSeq = s.nextSeq) (hc : ∀ m, u.chain m = s.chain m) : Appends s u [] := by
  refine ⟨hb, .nothing hb hj hn, fun m => ?_⟩
  rw [hc m]
  simp [State.dropped, Nat.sub_eq_zero_of_le hb]

/-- Only journal, numbers, time and chains count. -/
theorem Appends.congr {s u v : State} {items : List Item} (h : Appends s u items) (hj : v.journal = u.journal)
    (hn : v.nextSeq = u.nextSeq) (ht : v.time = u.time) (hc : ∀ m, v.chain m = u.chain m) : Appends s v items := by
  refine ⟨h.bound, ?_, fun m => (hc m).trans (h.chain m)⟩
  rw [Grows, hj, hn, ht]
  exact h.grows

theorem Appends.deliveryOnly {s u : State} {items : List Item} (h : Appends s u items) (m : Link) :
    DeliveryOnly (s.chain m) (u.chain m) := by
  rw [h.chain m]
  exact ⟨rfl, rfl, rfl, .of_delivery _ _ (Delivery.foldl_drop_state _ _) (Delivery.foldl_drop_retry _ _)⟩

theorem State.append_appends (s : State) (k : RecordKind) (src : Source) (p : Option Point) (g : Option Group)
    (hb : s.journal.length ≤ Config.journalCapacity) : Appends s (s.append k src p g) [(k, src, p, g)] := by
  refine ⟨hb, .append s _ k src p g hb (by simp) rfl rfl, fun m => ?_⟩
  have h : (s.append k src p g).chain m = s.makeRoom.chain m := by cases m <;> rfl
  rw [h]
  unfold State.makeRoom State.dropOldest State.dropped
  by_cases hlt : s.journal.length < Config.journalCapacity
  · have e : s.journal.length + 1 - Config.journalCapacity = 0 := by omega
    simp [hlt, e]
  · have e : s.journal.length + 1 - Config.journalCapacity = 1 := by omega
    cases hs : s.journal with
    | nil => simp [hs, Config.journalCapacity] at hlt
    | cons r rest =>
      rw [hs] at hlt e
      rw [List.length_cons] at hlt e
      cases m <;> simp [hlt, e, State.chain]

/-- The records dropped by two appends are those dropped by the one and then those dropped by the other. -/
theorem State.dropped_dropped {s u : State} {xs : List Item} (hg : Grows s u xs) (n : Nat)
    (hn : xs.length + n ≤ Config.journalCapacity) (d : Delivery) :
    u.dropped n (s.dropped xs.length d) = s.dropped (xs.length + n) d := by
  have hl := congrArg List.length hg.1
  rw [newest_length, List.length_append, recordsFrom_length] at hl
  have split : s.journal.length + (xs.length + n) - Config.journalCapacity =
      (s.journal.length + xs.length - Config.journalCapacity) + (u.journal.length + n - Config.journalCapacity) := by omega
  have tail : u.journal.take (u.journal.length + n - Config.journalCapacity) =
      (s.journal.drop (s.journal.length + xs.length - Config.journalCapacity)).take
        (u.journal.length + n - Config.journalCapacity) := by
    rw [hl, hg.1, newest, List.length_append, recordsFrom_length,
      List.drop_append_of_le_length (by omega), List.take_append_of_le_length (by rw [List.length_drop]; omega)]
  simp only [State.dropped]
  rw [split, List.take_add, List.foldl_append, tail]

theorem Appends.trans {s u v : State} {xs ys : List Item} (h : Appends s u xs) (k : Appends u v ys) (ht : v.time = u.time)
    (hn : xs.length + ys.length ≤ Config.journalCapacity) : Appends s v (xs ++ ys) := by
  refine ⟨h.bound, h.grows.trans k.grows ht, fun m => ?_⟩
  rw [k.chain m, h.chain m, List.length_append, ← State.dropped_dropped h.grows _ hn]

theorem Appends.bound_after {s u : State} {items : List Item} (h : Appends s u items) :
    u.journal.length ≤ Config.journalCapacity := by
  rw [h.grows.1, newest_length]
  exact Nat.min_le_right _ _

/-- One more record (08 R142, R145). -/
theorem Appends.append {s u : State} {items : List Item} (h : Appends s u items) (k : RecordKind) (src : Source)
    (p : Option Point) (g : Option Group) (hn : items.length < Config.journalCapacity) :
    Appends s (u.append k src p g) (items ++ [(k, src, p, g)]) :=
  h.trans (u.append_appends k src p g h.bound_after) (by simp) hn

theorem Appends.tell {s u : State} {items : List Item} (h : Appends s u items) (p : Point) (ph : Phase) (mark : Bool) :
    Appends s (u.tell p ph mark) items :=
  h.congr (by simp) (by simp) (by simp) (by simp)

theorem Appends.modifyPoint {s u : State} {items : List Item} (h : Appends s u items) (p : Point)
    (f : PointState → PointState) : Appends s (u.modifyPoint p f) items :=
  h.congr (by simp) (by simp) (by simp) (by simp)

/-- The first record of an event that has touched neither journal nor chains. -/
theorem Appends.first {s u : State} (hb : s.journal.length ≤ Config.journalCapacity) (hj : u.journal = s.journal)
    (hn : u.nextSeq = s.nextSeq) (hc : ∀ m, u.chain m = s.chain m) (k : RecordKind) (src : Source) (p : Option Point)
    (g : Option Group) : Appends s (u.append k src p g) [(k, src, p, g)] :=
  (Appends.nothing hb hj hn hc).append k src p g (by decide)

/-! ### Requests -/

/-- A request acted on with the reply OK: the state is its owner's but for the chains, and the statement's `Acts` holds. -/
theorem Accepts.acts {s : State} {l : Link} {k : ReqKind} {tag : Byte} {body : List Byte} (h : Accepts s l k tag body)
    {c : Instr} {sel : Request → Bool} {act : Request → State → State × Answer} {u : State} {fields : List Byte}
    {items : List Item} (hc : exec c s = .next (s.serve l k sel act))
    (hs : sel { kind := k.code, tag := tag, body := body } = true) (hk : k.reads = false)
    (ha : act { kind := k.code, tag := tag, body := body } (s.renewFor l k) = (u, .reply .ok fields))
    (hu : Appends s u items) :
    ∃ t, exec c s = .next t ∧ t = { u with chainA := t.chainA, chainB := t.chainB } ∧ Acts s t l k tag fields items := by
  have hl := hu.deliveryOnly l
  obtain ⟨t, ht, hf, hr, hd⟩ := h.acted hs hk ha ⟨hl.rx, hl.places, hl.line⟩ (hu.deliveryOnly (otherLink l)).undisturbed
  have hheld : t.isHeld = u.isHeld := by rw [hf]; rfl
  have hgrows : Grows s t items := by rw [hf]; exact hu.grows
  exact ⟨t, by rw [hc, ht], hf, hgrows, hr, by rw [hd, hu.chain l, State.reported_eq, hheld]⟩

/-- A request that only reads, or that its owner turns away: the lease is renewed and the reply queued, and that is all. -/
theorem Accepts.answered {s : State} {l : Link} {k : ReqKind} {tag : Byte} {body : List Byte} (h : Accepts s l k tag body)
    {c : Instr} {sel : Request → Bool} {act : Request → State → State × Answer} {r : Result} {fields : List Byte}
    (hc : exec c s = .next (s.serve l k sel act)) (hs : sel { kind := k.code, tag := tag, body := body } = true)
    (hk : k.reads = true ∨ r ≠ .ok) (hh : k ≠ .hello)
    (ha : act { kind := k.code, tag := tag, body := body } (s.renewLease l) = (s.renewLease l, .reply r fields)) :
    ∃ t, exec c s = .next t ∧ t = { s with session := s.sessionAfter l, chainA := t.chainA, chainB := t.chainB } ∧
      Answers s t l k tag r fields := by
  have hw : s.renewFor l k = s.renewLease l := by rw [State.renewFor, if_neg hh]
  obtain ⟨t, ht, hf, hr⟩ := h.replied hs hk (by rw [hw]; exact ha) fun m => s.renewLease_chain l m
  refine ⟨t, by rw [hc, ht], ?_, hr⟩
  rw [State.renewLease_eq] at hf
  exact hf

/-- A request that its owner turns away. -/
theorem Accepts.turnsAway {s : State} {l : Link} {k : ReqKind} {tag : Byte} {body : List Byte} (h : Accepts s l k tag body)
    {c : Instr} {sel : Request → Bool} {act : Request → State → State × Answer} {r : Result} {fields : List Byte}
    (hc : exec c s = .next (s.serve l k sel act)) (hs : sel { kind := k.code, tag := tag, body := body } = true)
    (hr : r ≠ .ok) (hh : k ≠ .hello)
    (ha : act { kind := k.code, tag := tag, body := body } (s.renewLease l) = (s.renewLease l, .reply r fields)) :
    TurnsAway s c l k tag r fields := by
  obtain ⟨t, ht, hf, hans⟩ := h.answered hc hs (.inr hr) hh ha
  exact ⟨t, ht, by rw [if_neg hh]; exact hf, hans⟩

end Sys2Proof.Machine
end

section
/-! SUPPORT. The bytes of a request's body as arguments (01 R7, 12 R190), and DEFINE GROUP and UNDEFINE GROUP. -/

namespace Sys2Proof.Machine

/-! ### Arguments from bytes -/

theorem asPoint_val {n : Nat} {p : Point} (h : n = p.val) : asPoint n = some p := by
  simp [asPoint, h]

theorem asPoint_none {n : Nat} (h : 48 ≤ n) : asPoint n = none := by
  simp [asPoint, h]

theorem asGroup_val {n : Nat} {g : Group} (h : n = g.val) : asGroup n = some g := by
  simp [asGroup, h]

theorem asGroup_none {n : Nat} (h : 8 ≤ n) : asGroup n = none := by
  simp [asGroup, h]

theorem byte_eq_zero (b : Byte) : b = 0 ↔ b.toNat = 0 := by
  simp [BitVec.toNat_eq]

theorem byte_eq_one (b : Byte) : b = 1 ↔ b.toNat = 1 := by
  simp [BitVec.toNat_eq]

theorem asBool_byte (b : Byte) : asBool b.toNat = if b.toNat ≤ 1 then some (decide (b = 1)) else none := by
  simp only [byte_eq_one]
  match b.toNat with
  | 0 | 1 => rfl
  | n + 2 => simp [asBool]

theorem asSequenceType_byte (b : Byte) :
    asSequenceType b.toNat =
      if b.toNat ≤ 2 then some (if b = 0 then .auto else if b = 1 then .manual else .ringback) else none := by
  simp only [byte_eq_one, byte_eq_zero]
  match b.toNat with
  | 0 | 1 | 2 => rfl
  | n + 3 => simp [asSequenceType]

theorem inRange_zero (hi n : Nat) : inRange 0 hi n = if n ≤ hi then some n else none := by
  simp [inRange]

/-- A check passed on to the rest of the arguments. -/
theorem guard_bind {α β : Type} (c : Prop) [Decidable c] (a : α) (f : α → Option β) :
    (if c then some a else none).bind f = if c then f a else none := by
  split <;> rfl

/-! ### The body of DEFINE GROUP -/

/-- The definition that the six bytes of a DEFINE GROUP body carry (12 Table 12-4). -/
def groupDefOfBytes (sequence firstOut audible sources minutes : Byte) : GroupDef :=
  { sequence := if sequence = 0 then .auto else if sequence = 1 then .manual else .ringback,
    firstOutEnabled := decide (firstOut = 1), audible := decide (audible = 1),
    permitsPanel := decide (sources.toNat % 2 = 1), permitsA := decide (sources.toNat / 2 % 2 = 1),
    permitsB := decide (sources.toNat / 4 % 2 = 1), realertMinutes := minutes.toNat }

theorem groupArgs_of_group {number : Byte} {g : Group} (h : number.toNat = g.val)
    (sequence firstOut audible sources minutes : Byte) :
    groupArgs [number, sequence, firstOut, audible, sources, minutes] =
      if sequence.toNat ≤ 2 ∧ firstOut.toNat ≤ 1 ∧ audible.toNat ≤ 1 ∧ sources.toNat ≤ 7 ∧ minutes.toNat ≤ 240 then
        some (g, groupDefOfBytes sequence firstOut audible sources minutes)
      else none := by
  have hb : ∀ i, byteAt [number, sequence, firstOut, audible, sources, minutes] i =
      ([number, sequence, firstOut, audible, sources, minutes].getD i 0).toNat := fun _ => rfl
  simp only [groupArgs, hb, List.getD_cons_zero, List.getD_cons_succ, asGroup_val h, asSequenceType_byte, asBool_byte,
    inRange_zero, Option.bind_eq_bind, Option.bind_some, guard_bind, ite_and, Nat.testBit_eq_decide_div_mod_eq, Nat.pow_zero,
    Nat.div_one]
  rfl

theorem groupArgs_no_group {number : Byte} (h : 8 ≤ number.toNat) (rest : List Byte) : groupArgs (number :: rest) = none := by
  simp [groupArgs, byteAt, asGroup_none h]

/-! ### Members -/

theorem State.mem_members (s : State) (g : Group) (p : Point) : p ∈ s.members g ↔ s.groupOf p = some g := by
  simp [State.members, everyPoint]

@[simp] theorem State.renewLease_groupOf (s : State) (l : Link) (p : Point) : (s.renewLease l).groupOf p = s.groupOf p :=
  (SameDefinitions.of_tables (by simp) (by simp)).groupOf p

@[simp] theorem State.renewLease_members (s : State) (l : Link) (g : Group) : (s.renewLease l).members g = s.members g := by
  simp [State.members]

/-! ### The effect of the two requests -/

/-- A DEFINE GROUP is accepted while its members are OUT_OF_SERVICE (01 R8). -/
theorem State.defineGroupRequest_eq (s : State) (l : Link) (g : Group) (d : GroupDef)
    [Decidable (∀ p, s.groupOf p = some g → (s.point p).phase = .outOfService)] :
    s.defineGroupRequest l (some (g, d)) =
      if ∀ p, s.groupOf p = some g → (s.point p).phase = .outOfService then (s.putGroup l g d).accepted
      else s.turnedAway .wrongState := by
  simp [State.defineGroupRequest, State.mem_members]

/-- An UNDEFINE GROUP is accepted of a defined group without members (01 R10). -/
theorem State.undefineGroupRequest_eq (s : State) (l : Link) (g : Group) [Decidable (∀ p, s.groupOf p ≠ some g)] :
    s.undefineGroupRequest l (some g) =
      if (s.group g).definition = none then s.turnedAway .notDefined
      else if ∀ p, s.groupOf p ≠ some g then (s.removeGroup l g).accepted
      else s.turnedAway .wrongState := by
  simp [State.undefineGroupRequest, List.isEmpty_iff, List.eq_nil_iff_forall_not_mem, State.mem_members]

/-- A request turned away after the renewal of the lease carries the generation as it stood (01 R7). -/
theorem State.renewLease_turnedAway (s : State) (l : Link) (r : Result) :
    (s.renewLease l).turnedAway r = (s.renewLease l, .reply r (be4 s.generation.toNat)) := by
  simp [State.turnedAway, State.configAnswer]

@[simp] theorem State.advanceGeneration_generation (s : State) : s.advanceGeneration.generation = nextGeneration s.generation :=
  rfl

theorem State.putGroup_renewed (s : State) (l : Link) (g : Group) (d : GroupDef) :
    (s.renewLease l).putGroup l g d =
      (((s.renewLease l).modifyGroup g fun x => { x with definition := some d }).advanceGeneration).append
        (.defined none (nextGeneration s.generation)) (linkSource l) none (some g) := by
  simp [State.putGroup]

theorem State.removeGroup_renewed (s : State) (l : Link) (g : Group) :
    (s.renewLease l).removeGroup l g =
      (((s.renewLease l).modifyGroup g fun x => { x with definition := none }).advanceGeneration).append
        (.undefined none (nextGeneration s.generation)) (linkSource l) none (some g) := by
  simp [State.removeGroup]

/-- An accepted change of the configuration: the state is its owner's but for the chains, and the reply carries the new
generation (01 R6, R7). -/
theorem Accepts.configChange {s : State} {l : Link} {k : ReqKind} {tag : Byte} {body : List Byte} (h : Accepts s l k tag body)
    {c : Instr} {sel : Request → Bool} {act : Request → State → State × Answer} {u : State} {items : List Item}
    (hc : exec c s = .next (s.serve l k sel act)) (hs : sel { kind := k.code, tag := tag, body := body } = true)
    (hk : k.reads = false) (hh : k ≠ .hello)
    (ha : act { kind := k.code, tag := tag, body := body } (s.renewLease l) = u.accepted)
    (hg : u.generation = nextGeneration s.generation) (hu : Appends s u items) :
    ∃ t, exec c s = .next t ∧ t = { u with chainA := t.chainA, chainB := t.chainB } ∧
      Acts s t l k tag (be4 (nextGeneration s.generation).toNat) items :=
  h.acts hc hs hk (by rw [State.renewFor, if_neg hh, ha, State.accepted, State.configAnswer, hg]) hu

/-- The change of one group's definition, with its record (01 R6, R8, R10). -/
theorem Accepts.groupChange {s : State} {l : Link} {k : ReqKind} {tag : Byte} {body : List Byte} (h : Accepts s l k tag body)
    {c : Instr} {act : Request → State → State × Answer} {g : Group} {d : Option GroupDef} {kind : RecordKind} {u : State}
    (hc : exec c s = .next (s.serve l k anyRequest act)) (hk : k.reads = false) (hh : k ≠ .hello)
    (hu : u = (((s.renewLease l).modifyGroup g fun x => { x with definition := d }).advanceGeneration).append kind
      (linkSource l) none (some g))
    (ha : act { kind := k.code, tag := tag, body := body } (s.renewLease l) = u.accepted) :
    ∃ t, exec c s = .next t ∧ OnlyGroup s t g ∧
      t = { s with session := s.sessionAfter l, groups := t.groups, generation := nextGeneration s.generation,
                   journal := t.journal, nextSeq := t.nextSeq, chainA := t.chainA, chainB := t.chainB } ∧
      t.group g = { s.group g with definition := d } ∧
      Acts s t l k tag (be4 (nextGeneration s.generation).toNat) [(kind, linkSource l, none, some g)] := by
  have happ : Appends s u [(kind, linkSource l, none, some g)] := by
    rw [hu]
    exact .first h.journal (by simp) (by simp) (by simp) _ _ _ _
  obtain ⟨t, ht, hf, hacts⟩ := h.configChange hc rfl hk hh ha (by simp [hu]) happ
  have hgroup : ∀ y, t.group y = u.group y := fun y => by rw [hf]; rfl
  refine ⟨t, ht, fun y hy => ?_, ?_, ?_, hacts⟩
  · simp [hgroup, hu, State.group_modifyGroup, hy]
  · rw [hf]
    exact State.eq_of_fields (by simp [hu, State.renewLease_session])
  · simp [hgroup, hu]

/-- Settles O42: the body's bytes are checked against Table 1-1, then the members' phases decide. -/
theorem groupsAreDefinedAndUndefined : Obligations.GroupsAreDefinedAndUndefined := by
  classical
  intro l tag s g
  refine ⟨fun number sequence firstOut audible sources minutes h => ⟨fun hn hs hf ha ho hm => ?_, fun hbad => ?_⟩,
    fun number h => ⟨fun hn hd hmem => ?_, fun hn hd => ?_, fun hn hd hmem => ?_, fun hn => ?_⟩⟩
  · have hargs := groupArgs_of_group hn sequence firstOut audible sources minutes
    rw [if_pos ⟨hs, hf, ha, ho, hm⟩] at hargs
    refine ⟨fun hout => ?_, fun hin => h.turnsAway rfl rfl (by decide) (by decide) ?_⟩
    · refine h.groupChange rfl rfl (by decide) (s.putGroup_renewed l g _) ?_
      dsimp only
      rw [hargs, State.defineGroupRequest_eq, if_pos (by simpa using hout)]
      rfl
    · dsimp only
      rw [hargs, State.defineGroupRequest_eq, if_neg (by simpa using hin), State.renewLease_turnedAway]
  · refine h.turnsAway rfl rfl (by decide) (by decide) ?_
    have hargs : groupArgs [number, sequence, firstOut, audible, sources, minutes] = none := by
      by_cases hn : 8 ≤ number.toNat
      · exact groupArgs_no_group hn _
      · rw [groupArgs_of_group (g := ⟨number.toNat, by omega⟩) rfl, if_neg (by omega)]
    dsimp only
    rw [hargs]
    exact s.renewLease_turnedAway l _
  · refine h.groupChange rfl rfl (by decide) (s.removeGroup_renewed l g) ?_
    have hargs : asGroup (byteAt [number] 0) = some g := asGroup_val hn
    dsimp only
    rw [hargs, State.undefineGroupRequest_eq, if_neg (by simpa using hd), if_pos (by simpa using hmem)]
  · refine h.turnsAway rfl rfl (by decide) (by decide) ?_
    have hargs : asGroup (byteAt [number] 0) = some g := asGroup_val hn
    dsimp only
    rw [hargs, State.undefineGroupRequest_eq, if_pos (by simpa using hd), State.renewLease_turnedAway]
  · refine h.turnsAway rfl rfl (by decide) (by decide) ?_
    have hargs : asGroup (byteAt [number] 0) = some g := asGroup_val hn
    dsimp only
    rw [hargs, State.undefineGroupRequest_eq, if_neg (by simpa using hd), if_neg (by simpa using hmem),
      State.renewLease_turnedAway]
  · refine h.turnsAway rfl rfl (by decide) (by decide) ?_
    have hargs : asGroup (byteAt [number] 0) = none := asGroup_none hn
    dsimp only
    rw [hargs]
    exact s.renewLease_turnedAway l _

end Sys2Proof.Machine
end

section
/-! SUPPORT. DEFINE POINT and UNDEFINE POINT (01 R11 to R14). -/

namespace Sys2Proof.Machine

/-! ### The body of DEFINE POINT -/

theorem asSense_byte (b : Byte) :
    asSense b.toNat = if b.toNat ≤ 1 then some (if b = 0 then .normallyOpen else .normallyClosed) else none := by
  simp only [byte_eq_zero]
  match b.toNat with
  | 0 | 1 => rfl
  | n + 2 => simp [asSense]

theorem asDelayMode_byte (b : Byte) :
    asDelayMode b.toNat = if b.toNat ≤ 1 then some (if b = 0 then .continuous else .accumulating) else none := by
  simp only [byte_eq_zero]
  match b.toNat with
  | 0 | 1 => rfl
  | n + 2 => simp [asDelayMode]

/-- The chatter fields a DEFINE POINT may carry (01 R5). -/
def chatterOk (limit : Byte) (window : Nat) : Prop :=
  limit = 0 ∨ (2 ≤ limit.toNat ∧ limit.toNat ≤ 20 ∧ 10 ≤ window ∧ window ≤ 3600)

/-- The characters a label may carry (01 R4). -/
def printable (label : List Byte) : Prop := ∀ b ∈ label, 0x20 ≤ b.toNat ∧ b.toNat ≤ 0x7E

theorem chatterArgs_byte (limit : Byte) (window : Nat) [Decidable (chatterOk limit window)] :
    chatterArgs limit.toNat window =
      if chatterOk limit window then some (limit.toNat, if limit = 0 then 0 else window) else none := by
  by_cases h0 : limit = 0
  · simp [chatterArgs, h0, chatterOk]
  · have h : limit.toNat ≠ 0 := mt (byte_eq_zero limit).mpr h0
    rw [chatterArgs, if_neg h, if_neg h0]
    exact if_congr (by unfold chatterOk; tauto) rfl rfl

theorem labelArg_eq (label : List Byte) [Decidable (printable label)] :
    labelArg label = if label.length ≤ 16 ∧ printable label then some label else none := by
  exact if_congr (by simp [printable]) rfl rfl

/-- The definition that the bytes of a DEFINE POINT body carry (12 Table 12-4). -/
def pointDefOfBytes (g : Group) (sense filter mode limit : Byte) (on off window : Nat) (label : List Byte) : PointDef :=
  { group := g, sense := if sense = 0 then .normallyOpen else .normallyClosed, filterMs := filter.toNat, onDelay := on,
    offDelay := off, mode := if mode = 0 then .continuous else .accumulating, chatterLimit := limit.toNat,
    chatterWindow := if limit = 0 then 0 else window, label := label }

/-- The ranges of a DEFINE POINT body but for its point and group (01 R4, R5, Table 1-2). -/
def pointFieldsOk (sense filter mode limit : Byte) (on off window : Nat) (label : List Byte) : Prop :=
  sense.toNat ≤ 1 ∧ (2 ≤ filter.toNat ∧ filter.toNat ≤ 250) ∧ on ≤ 6000 ∧ off ≤ 6000 ∧ mode.toNat ≤ 1 ∧
    chatterOk limit window ∧ label.length ≤ 16 ∧ printable label

theorem pointArgs_of_point {number group : Byte} {p : Point} {g : Group} (hn : number.toNat = p.val)
    (hg : group.toNat = g.val) (sense filter on1 on0 off1 off0 mode limit w1 w0 length : Byte) (label : List Byte)
    [Decidable (pointFieldsOk sense filter mode limit (on1.toNat * 256 + on0.toNat) (off1.toNat * 256 + off0.toNat)
      (w1.toNat * 256 + w0.toNat) label)] :
    pointArgs
        (number :: group :: sense :: filter :: on1 :: on0 :: off1 :: off0 :: mode :: limit :: w1 :: w0 :: length :: label) =
      if pointFieldsOk sense filter mode limit (on1.toNat * 256 + on0.toNat) (off1.toNat * 256 + off0.toNat)
          (w1.toNat * 256 + w0.toNat) label then
        some (p, pointDefOfBytes g sense filter mode limit (on1.toNat * 256 + on0.toNat) (off1.toNat * 256 + off0.toNat)
          (w1.toNat * 256 + w0.toNat) label)
      else none := by
  classical
  simp only [pointArgs, numberAt2, byteAt, List.getD_cons_zero, List.getD_cons_succ, List.drop_succ_cons, List.drop_zero,
    asPoint_val hn, asGroup_val hg, asSense_byte, asDelayMode_byte, inRange, chatterArgs_byte, labelArg_eq,
    Option.bind_eq_bind, Option.bind_some, guard_bind]
  simp only [← ite_and]
  exact if_congr (by simp [pointFieldsOk, and_assoc]) rfl rfl

theorem pointArgs_no_point {number : Byte} (h : 48 ≤ number.toNat) (rest : List Byte) : pointArgs (number :: rest) = none := by
  simp [pointArgs, byteAt, asPoint_none h]

theorem pointArgs_no_group {group : Byte} (h : 8 ≤ group.toNat) (number : Byte) (rest : List Byte) :
    pointArgs (number :: group :: rest) = none := by
  simp [pointArgs, byteAt, asGroup_none h]

/-! ### A change of one point with its record -/

/-- A phase that sets no latch, told to the output unit, only re-evaluates the latches (06 R117 to R119). -/
theorem State.tell_latched {s u : State} (ho : u.output = s.output) (p : Point) {ph : Phase} (mark : Bool)
    (ha : ph ≠ .alert) (hr : ph ≠ .ringback) : Latched s (u.tell p ph mark) false false := by
  unfold Latched
  rw [State.tell_output]
  simp [ho, ha, hr]

/-- An accepted change that touches one point, its copy in the output unit and the latches, with its record (01 R6, R7). -/
theorem Accepts.pointChange {s : State} {l : Link} {k : ReqKind} {tag : Byte} {body : List Byte} (h : Accepts s l k tag body)
    {c : Instr} {sel : Request → Bool} {act : Request → State → State × Answer} {p : Point} {u : State} {item : Item}
    (hc : exec c s = .next (s.serve l k sel act)) (hs : sel { kind := k.code, tag := tag, body := body } = true)
    (hk : k.reads = false) (hh : k ≠ .hello)
    (ha : act { kind := k.code, tag := tag, body := body } (s.renewLease l) = u.accepted)
    (hu : u = { s with session := s.sessionAfter l, points := u.points, generation := nextGeneration s.generation,
                       journal := u.journal, nextSeq := u.nextSeq, output := u.output, chainA := u.chainA,
                       chainB := u.chainB })
    (happ : Appends s u [item]) (ho : OnlyPoint s u p) (hl : Latched s u false false) :
    ∃ t, exec c s = .next t ∧ OnlyPoint s t p ∧
      t = { s with session := s.sessionAfter l, points := t.points, generation := nextGeneration s.generation,
                   journal := t.journal, nextSeq := t.nextSeq, output := t.output, chainA := t.chainA,
                   chainB := t.chainB } ∧
      t.point p = u.point p ∧ Latched s t false false ∧ Acts s t l k tag (be4 (nextGeneration s.generation).toNat) [item] := by
  obtain ⟨t, ht, hf, hacts⟩ := h.configChange hc hs hk hh ha (by rw [hu]) happ
  have hpoint : ∀ y, t.point y = u.point y := fun y => by rw [hf]; rfl
  refine ⟨t, ht, fun y hy => (hpoint y).trans (ho y hy), ?_, hpoint p, ?_, hacts⟩
  · rw [hf, hu]
  · exact hl.of_output (by rw [hf]) (by rw [hf]) (by rw [hf])

/-! ### The effect of the two requests -/

/-- The owner's effect on one point: the point changes, the generation advances, the record is appended, and the output unit is
told (01 R12, R14). -/
def State.changePoint (s : State) (l : Link) (p : Point) (f : PointState → PointState) (kind : RecordKind) (g : Option Group)
    (ph : Phase) : State :=
  (((s.modifyPoint p f).advanceGeneration).append kind (linkSource l) (some p) g).tell p ph false

theorem State.putPoint_renewed (s : State) (l : Link) (p : Point) (d : PointDef) :
    (s.renewLease l).putPoint l p d =
      (s.renewLease l).changePoint l p (PointState.define d) (.defined (some .outOfService) (nextGeneration s.generation))
        (some d.group) .outOfService := by
  simp [State.putPoint, State.changePoint, State.appendPoint, State.groupOf, PointState.define]

theorem State.removePoint_renewed (s : State) (l : Link) (p : Point) :
    (s.renewLease l).removePoint l p =
      (s.renewLease l).changePoint l p PointState.undefine (.undefined (some .undefined) (nextGeneration s.generation))
        (s.groupOf p) .undefined := by
  simp [State.removePoint, State.changePoint]

/-- DEFINE POINT of a point not in service, naming a defined group, is accepted (01 R11, R12). -/
theorem State.definePointRequest_accepts {s : State} (l : Link) {p : Point} {d : PointDef}
    (hd : (s.group d.group).definition ≠ none) (hp : (s.point p).phase = .undefined ∨ (s.point p).phase = .outOfService) :
    (s.renewLease l).definePointRequest l (some (p, d)) =
      ((s.renewLease l).changePoint l p (PointState.define d) (.defined (some .outOfService) (nextGeneration s.generation))
        (some d.group) .outOfService).accepted := by
  simp [State.definePointRequest, hd, hp, State.putPoint_renewed]

/-- UNDEFINE POINT of an OUT_OF_SERVICE point is accepted (01 R14). -/
theorem State.undefinePointRequest_accepts {s : State} (l : Link) {p : Point} {d : PointDef}
    (hd : (s.point p).definition = some d) (hp : (s.point p).phase = .outOfService) :
    (s.renewLease l).undefinePointRequest l (some p) =
      ((s.renewLease l).changePoint l p PointState.undefine (.undefined (some .undefined) (nextGeneration s.generation))
        (some d.group) .undefined).accepted := by
  have hg : s.groupOf p = some d.group := by simp [State.groupOf, hd]
  simp [State.undefinePointRequest, hd, hp, State.removePoint_renewed, hg]

/-- DEFINE POINT and UNDEFINE POINT as changes of one point. -/
theorem Accepts.pointDefinition {s : State} {l : Link} {k : ReqKind} {tag : Byte} {body : List Byte}
    (h : Accepts s l k tag body) {c : Instr} {act : Request → State → State × Answer} {p : Point}
    {f : PointState → PointState} {kind : RecordKind} {g : Option Group} {ph : Phase}
    (hc : exec c s = .next (s.serve l k anyRequest act)) (hk : k.reads = false) (hh : k ≠ .hello) (hp : ph ≠ .alert)
    (hr : ph ≠ .ringback)
    (ha : act { kind := k.code, tag := tag, body := body } (s.renewLease l) =
      ((s.renewLease l).changePoint l p f kind g ph).accepted) :
    ∃ t, exec c s = .next t ∧ OnlyPoint s t p ∧
      t = { s with session := s.sessionAfter l, points := t.points, generation := nextGeneration s.generation,
                   journal := t.journal, nextSeq := t.nextSeq, output := t.output, chainA := t.chainA,
                   chainB := t.chainB } ∧
      t.point p = { f (s.point p) with shownPhase := ph, shownMark := false } ∧ Latched s t false false ∧
      Acts s t l k tag (be4 (nextGeneration s.generation).toNat) [(kind, linkSource l, some p, g)] := by
  have hpoint : ((s.renewLease l).changePoint l p f kind g ph).point p =
      { f (s.point p) with shownPhase := ph, shownMark := false } := by
    simp [State.changePoint, State.point_tell]
  rw [← hpoint]
  refine h.pointChange hc rfl hk hh ha (State.eq_of_fields ?_) ?_ (fun q hq => ?_) (State.tell_latched ?_ p false hp hr)
  · simp [State.changePoint, State.renewLease_session]
  · exact .tell (.first h.journal (by simp) (by simp) (by simp) _ _ _ _) _ _ _
  · simp [State.changePoint, State.point_tell, State.point_modifyPoint, hq]
  · simp

/-- The level of a line by the sense that a byte carries (02 Table 2-1). -/
theorem sense_correct (sense : Byte) (line : Bool) :
    (if sense = 0#8 then Sense.normallyOpen else .normallyClosed).correct line =
      if line = decide (sense = 0#8) then .abnormal else .normal := by
  by_cases h : sense = 0#8 <;> cases line <;> simp [h, Sense.correct]

/-- Settles O43: the body's bytes are checked against Table 1-2, then the group and the point's phase decide. -/
theorem pointsAreDefinedAndUndefined : Obligations.PointsAreDefinedAndUndefined := by
  classical
  intro l tag s p
  refine ⟨fun number group sense filter on1 on0 off1 off0 mode limit w1 w0 length label h =>
      ⟨fun g hn hg hs hf1 hf2 hon hoff hm hlim hlen hlab => ?_, fun hbad => ?_⟩,
    fun number h => ⟨fun d hn hd hp => ?_, fun hn hd => ?_, fun hn hd hp => ?_, fun hn => ?_⟩⟩
  · have hargs := pointArgs_of_point hn hg sense filter on1 on0 off1 off0 mode limit w1 w0 length label
    rw [if_pos ⟨hs, ⟨hf1, hf2⟩, hon, hoff, hm, hlim, hlen, hlab⟩] at hargs
    refine ⟨fun hd hp => ?_, fun hd => h.turnsAway rfl rfl (by decide) (by decide) ?_,
      fun hd hp hq => h.turnsAway rfl rfl (by decide) (by decide) ?_⟩
    · obtain ⟨t, ht, ho, hf, hpt, hlatch, hacts⟩ := h.pointDefinition (c := .definePoint l) (ph := .outOfService) rfl rfl (by decide) (by decide)
        (by decide) (by dsimp only; rw [hargs]; exact State.definePointRequest_accepts l hd hp)
      refine ⟨t, ht, ho, hf, ?_, hlatch, hacts⟩
      rw [hpt]
      simp [PointState.define, PointState.quiet, PointState.unqualified, PointState.lineLevel, pointDefOfBytes, sense_correct]
    · dsimp only
      rw [hargs, ← State.renewLease_turnedAway]
      simp [State.definePointRequest, pointDefOfBytes, hd]
    · dsimp only
      rw [hargs, ← State.renewLease_turnedAway]
      simp [State.definePointRequest, pointDefOfBytes, hd, hp, hq]
  · refine h.turnsAway rfl rfl (by decide) (by decide) ?_
    have hargs : pointArgs (number :: group :: sense :: filter :: on1 :: on0 :: off1 :: off0 :: mode :: limit :: w1 :: w0 ::
        length :: label) = none := by
      by_cases hn : 48 ≤ number.toNat
      · exact pointArgs_no_point hn _
      · by_cases hg : 8 ≤ group.toNat
        · exact pointArgs_no_group hg _ _
        · rw [pointArgs_of_point (p := ⟨number.toNat, by omega⟩) (g := ⟨group.toNat, by omega⟩) rfl rfl, if_neg]
          rintro ⟨hs, hf, hon, hoff, hm, hlim, hlen, hlab⟩
          have hall : ¬ ∃ b ∈ label, b.toNat < 0x20 ∨ 0x7E < b.toNat := by
            rintro ⟨b, hb, hout⟩
            have := hlab b hb
            omega
          simp only [hall, or_false, byte_eq_zero, byte_eq_one, ne_eq] at hbad
          simp only [chatterOk, byte_eq_zero] at hlim
          omega
    dsimp only
    rw [hargs]
    exact s.renewLease_turnedAway l _
  · have hargs : asPoint (byteAt [number] 0) = some p := asPoint_val hn
    obtain ⟨t, ht, ho, hf, hpt, hlatch, hacts⟩ := h.pointDefinition (c := .undefinePoint l) (ph := .undefined) rfl rfl (by decide) (by decide)
      (by decide) (by dsimp only; rw [hargs]; exact State.undefinePointRequest_accepts l hd hp)
    refine ⟨t, ht, ho, hf, ?_⟩
    rw [hpt]
    exact ⟨rfl, rfl, rfl, rfl, rfl, hlatch, hacts⟩
  all_goals refine h.turnsAway rfl rfl (by decide) (by decide) ?_
  · have hargs : asPoint (byteAt [number] 0) = some p := asPoint_val hn
    dsimp only
    rw [hargs, ← State.renewLease_turnedAway]
    simp [State.undefinePointRequest, hd]
  · have hargs : asPoint (byteAt [number] 0) = some p := asPoint_val hn
    dsimp only
    rw [hargs, ← State.renewLease_turnedAway]
    simp [State.undefinePointRequest, hd, hp]
  · have hargs : asPoint (byteAt [number] 0) = none := asPoint_none hn
    dsimp only
    rw [hargs]
    exact s.renewLease_turnedAway l _

end Sys2Proof.Machine
end

section
/-! SUPPORT. SET SERVICE (01 R15, R16): a phase change that closes an entry, and one that may begin an episode at once. -/

namespace Sys2Proof.Machine

/-! ### The records of a phase change out of an episode -/

/-- What the close of a point's entry appends (04 R76, R80). -/
def State.closeItems (s : State) (p : Point) (src : Source) : List Item := ((s.entry? p).map fun e => goneItems e src).getD []

theorem Appends.closeEntry {s u : State} {items : List Item} (h : Appends s u items) (p : Point) (src : Source)
    (hn : items.length < Config.journalCapacity) : Appends s (u.closeEntry p src) (items ++ u.closeItems p src) := by
  have hdrop : Appends s (u.dropEntry p) items := h.congr rfl rfl rfl (by simp)
  rcases u.closeEntry_cases p src with ⟨he, hc⟩ | ⟨e, he, hf, hc⟩ | ⟨e, he, hf, hc⟩ <;> rw [hc, State.closeItems, he]
  · simpa using hdrop
  · simpa [goneItems, hf] using hdrop
  · have hg := (hdrop.congr (v := (u.dropEntry p).modifyGroup e.group fun g => { g with firstOut := none }) rfl rfl rfl
      (by simp)).append (.firstOutCleared .gone) src (some p) (some e.group) hn
    simpa [goneItems, hf, State.entry?_point he] using hg

theorem State.move_appends (s : State) (p : Point) {ph : Phase} (timer : Option Nat) (kind : RecordKind) (src : Source)
    (upd : Entry → Entry) (h : ph.hasEntry = false) (hj : s.journal.length ≤ Config.journalCapacity) :
    Appends s (s.move p ph timer kind src upd) ((kind, src, some p, s.groupOf p) :: s.closeItems p src) := by
  rw [State.move_close s p ph timer kind src upd h]
  have hrec : Appends s ((s.setPhase p ph timer).append kind src (some p) (s.groupOf p)) [(kind, src, some p, s.groupOf p)] :=
    .first hj (by simp) (by simp) (by simp) _ _ _ _
  have hitems : ((s.setPhase p ph timer).append kind src (some p) (s.groupOf p)).closeItems p src = s.closeItems p src := by
    simp [State.closeItems, State.entry?]
  have := (hrec.closeEntry p src (by change 1 < Config.journalCapacity; decide)).tell p ph false
  rwa [hitems] at this

/-! ### SET SERVICE out -/

theorem servicePoint_out {number direction : Byte} (h : 48 ≤ number.toNat ∨ 1 < direction.toNat) :
    servicePoint [number, direction] = none := by
  have hd : byteAt [number, direction] 1 = direction.toNat := rfl
  have hn : byteAt [number, direction] 0 = number.toNat := rfl
  rw [servicePoint, hd, hn, asBool_byte, guard_bind]
  rcases h with h | h
  · simp [asPoint_none h]
  · rw [if_neg (by omega)]

theorem servicePoint_val {number direction : Byte} {p : Point} (hn : number.toNat = p.val) (hd : direction.toNat ≤ 1) :
    servicePoint [number, direction] = some p := by
  have e1 : byteAt [number, direction] 1 = direction.toNat := rfl
  have e0 : byteAt [number, direction] 0 = number.toNat := rfl
  rw [servicePoint, e1, e0, asBool_byte, guard_bind, if_pos hd, asPoint_val hn]

/-- The state that a SET SERVICE out moves from (01 R15 steps 1 to 3): the point's timers cancelled, the generation advanced. -/
def State.quieted (s : State) (p : Point) : State := (s.modifyPoint p fun x => x.unqualified.quiet).advanceGeneration

theorem State.takeOut_eq (s : State) (l : Link) (p : Point) :
    s.takeOut l p = (s.quieted p).move p .outOfService none (.serviceOut .outOfService) (linkSource l) id := rfl

theorem State.quieted_groupOf (s : State) (p : Point) : (s.quieted p).groupOf p = s.groupOf p := by
  simp [State.quieted, State.groupOf, PointState.quiet, PointState.unqualified]

theorem State.quieted_closeItems (s : State) (p : Point) (src : Source) :
    (s.quieted p).closeItems p src = s.closeItems p src := by
  simp [State.quieted, State.closeItems, State.entry?]

/-- The records of an accepted SET SERVICE out (01 R15, 04 R80). -/
theorem State.takeOut_appends {s u : State} (l : Link) (p : Point) (hb : s.journal.length ≤ Config.journalCapacity)
    (hj : u.journal = s.journal) (hn : u.nextSeq = s.nextSeq) (hc : ∀ m, u.chain m = s.chain m) :
    Appends s (u.takeOut l p)
      ((.serviceOut .outOfService, linkSource l, some p, u.groupOf p) :: u.closeItems p (linkSource l)) := by
  have hstart : Appends s (u.quieted p) [] := .nothing hb (by simp [State.quieted, hj]) (by simp [State.quieted, hn])
    (by simp [State.quieted, hc])
  have hmove := (u.quieted p).move_appends p none (.serviceOut .outOfService) (linkSource l) id (ph := .outOfService) rfl
    hstart.bound_after
  rw [State.quieted_groupOf, State.quieted_closeItems, ← State.takeOut_eq] at hmove
  have hlen : (u.closeItems p (linkSource l)).length ≤ 1 := by
    unfold State.closeItems goneItems
    cases u.entry? p with
    | none => simp
    | some e => cases h : e.firstOut <;> simp [h]
  refine hstart.trans hmove (by simp [State.takeOut_eq, State.quieted]) ?_
  simp only [List.length_nil, List.length_cons, Config.journalCapacity]
  omega

/-- Settles O44: the accepted request is a phase change out of an episode, after the point's timers are cancelled. -/
theorem serviceOutEndsTheEpisode : Obligations.ServiceOutEndsTheEpisode := by
  intro l tag number direction s h hdir
  have hsel : asksOut { kind := ReqKind.setService.code, tag := tag, body := [number, direction] } = true := by
    change (!decide (direction = 1)) = true
    rw [decide_eq_false hdir]
    rfl
  refine ⟨fun p d h0 hn hd hp => ?_, fun hbad => ?_, fun p h0 hn hd => ?_, fun p h0 hn hd hp => ?_⟩
  · have hargs : servicePoint [number, direction] = some p := servicePoint_val hn (by simp [h0])
    have hgroup : s.groupOf p = some d.group := by simp [State.groupOf, hd]
    have hentry : ((s.renewLease l).quieted p).entry? p = s.entry? p := by simp [State.quieted, State.entry?]
    have hcloses := State.move_closes ((s.renewLease l).quieted p) p .outOfService none (.serviceOut .outOfService)
      (linkSource l) id rfl
    rw [← State.takeOut_eq] at hcloses
    have happ := (State.takeOut_appends (u := s.renewLease l) l p h.journal (by simp) (by simp) (by simp))
    have hitems : (s.renewLease l).closeItems p (linkSource l) = s.closeItems p (linkSource l) := by
      simp [State.closeItems, State.entry?]
    rw [State.renewLease_groupOf, hgroup, hitems] at happ
    obtain ⟨t, ht, hf, hacts⟩ := h.configChange (c := .setServiceOut l) (u := (s.renewLease l).takeOut l p) rfl hsel rfl
      (by decide) (by dsimp only; rw [hargs]; simp [State.serviceOutRequest, hd, hp]) (by rw [hcloses.frame]; simp [State.quieted])
      happ
    have hpoint : ∀ y, t.point y = ((s.renewLease l).takeOut l p).point y := fun y => by rw [hf]; rfl
    have hgrp : ∀ y, t.group y = ((s.renewLease l).takeOut l p).group y := fun y => by rw [hf]; rfl
    refine ⟨t, ht, fun q hq => ?_, ?_, ?_, ?_, ?_, fun he => ⟨?_, ?_⟩, fun e he => ⟨fun k hk => ?_, ?_, ?_⟩⟩
    · rw [hpoint, hcloses.others q hq]
      simp [State.quieted, State.point_modifyPoint, hq]
    · rw [hf, hcloses.frame]
      exact State.eq_of_fields (by simp [State.quieted, State.renewLease_session, nextGeneration])
    · rw [hpoint, hcloses.point]
      simp [State.quieted, PointState.moved, PointState.quiet, PointState.unqualified]
    · rw [hf]
      simpa [State.quieted] using hcloses.list
    · have hl := hcloses.latches.of_output (u := t) (by rw [hf]) (by rw [hf]) (by rw [hf])
      simpa [Latched, State.quieted] using hl
    · rw [hf]
      simpa [State.quieted] using (hcloses.noEntry (hentry.trans he)).1
    · rw [show s.closeItems p (linkSource l) = [] by simp [State.closeItems, he]] at hacts
      exact hacts
    · obtain ⟨honly, -, -⟩ := hcloses.anEntry e (hentry.trans he)
      rw [hgrp, honly k hk]
      simp [State.quieted]
    · obtain ⟨-, hg, -⟩ := hcloses.anEntry e (hentry.trans he)
      rw [hgrp, hg]
      simp [State.quieted]
    · rw [show s.closeItems p (linkSource l) = goneItems e (linkSource l) by simp [State.closeItems, he]] at hacts
      exact hacts
  all_goals refine h.turnsAway rfl hsel (by decide) (by decide) ?_
  · dsimp only
    rw [servicePoint_out hbad]
    exact s.renewLease_turnedAway l _
  · dsimp only
    rw [servicePoint_val hn (by simp [h0]), ← State.renewLease_turnedAway]
    simp [State.serviceOutRequest, hd]
  · dsimp only
    rw [servicePoint_val hn (by simp [h0]), ← State.renewLease_turnedAway]
    simp [State.serviceOutRequest, hd, hp]

end Sys2Proof.Machine
end

section
/-! SUPPORT. The five requests that only read (01 R18, R19; 04 R84, R85; 08 R149, R150; 11 R188). -/

namespace Sys2Proof.Machine

/-! ### What a renewed lease leaves of the fields of a reply -/

/-- The statement's `reads`: a request that only reads is answered, and that is all. -/
theorem Accepts.reads {s : State} {l : Link} {k : ReqKind} {tag : Byte} {body : List Byte} (h : Accepts s l k tag body)
    {c : Instr} {act : Request → State → State × Answer} {r : Result} {fields : List Byte}
    (hc : exec c s = .next (s.serve l k anyRequest act)) (hk : k.reads = true)
    (ha : act { kind := k.code, tag := tag, body := body } (s.renewLease l) = (s.renewLease l, .reply r fields)) :
    ∃ t, exec c s = .next t ∧ t = { s with session := s.sessionAfter l, chainA := t.chainA, chainB := t.chainB } ∧
      Answers s t l k tag r fields :=
  h.answered hc rfl (.inl hk) (by rintro rfl; cases hk) ha

/-- The same, with the owner's effect read as another function's. -/
theorem Accepts.readsAs {s : State} {l : Link} {k : ReqKind} {tag : Byte} {body : List Byte} (h : Accepts s l k tag body)
    {c : Instr} {act own : Request → State → State × Answer} {r : Result} {fields : List Byte}
    (hc : exec c s = .next (s.serve l k anyRequest act)) (hk : k.reads = true) (how : ∀ q u, act q u = own q u)
    (ha : own { kind := k.code, tag := tag, body := body } (s.renewLease l) = (s.renewLease l, .reply r fields)) :
    ∃ t, exec c s = .next t ∧ t = { s with session := s.sessionAfter l, chainA := t.chainA, chainB := t.chainB } ∧
      Answers s t l k tag r fields :=
  h.reads hc hk (by rw [how]; exact ha)

theorem State.renewLease_pointFields (s : State) (l : Link) (p : Point) : (s.renewLease l).pointFields p = s.pointFields p := by
  simp [State.pointFields, State.isFirstOut]

theorem State.renewLease_groupFields (s : State) (l : Link) (g : Group) : (s.renewLease l).groupFields g = s.groupFields g := by
  simp [State.groupFields]

theorem State.renewLease_oldestSeq (s : State) (l : Link) : (s.renewLease l).oldestSeq = s.oldestSeq := by
  simp [State.oldestSeq]

theorem State.renewLease_newestSeq (s : State) (l : Link) : (s.renewLease l).newestSeq = s.newestSeq := by
  simp [State.newestSeq]

theorem State.renewLease_listFields (s : State) (l : Link) (start most : Nat) :
    (s.renewLease l).listFields start most = s.listFields start most := by
  simp [State.listFields, State.listPage, State.renewLease_newestSeq]

theorem State.renewLease_journalFields (s : State) (l : Link) (first most : Nat) (truncated : Bool) :
    (s.renewLease l).journalFields first most truncated = s.journalFields first most truncated := by
  simp [State.journalFields, State.journalPage, State.renewLease_newestSeq, State.renewLease_oldestSeq]

theorem State.renewLease_journalStart (s : State) (l : Link) (n : Seq) :
    (s.renewLease l).journalStart n = s.journalStart n := by
  simp [State.journalStart, State.position, State.isHeld, State.renewLease_oldestSeq]

/-! ### The bytes of the fields -/

theorem seqBytes_eq (n : Option Seq) :
    seqBytes n = match n with | some n => be4 n.toNat | none => [0, 0, 0, 0] := by
  cases n <;> rfl

theorem pointCode_eq (p : Option Point) : pointCode p = match p with | some p => byte p.val | none => 0xFF := by
  cases p <;> rfl

theorem resetCode_eq (c : ResetCause) : resetCode c = if c = .power then 0 else 1 := by
  cases c <;> rfl

theorem byte_toNat (b : Byte) : byte b.toNat = b := by simp [byte]

theorem append_byte_toNat {w : Nat} (x : BitVec w) (b : Byte) : (x ++ b).toNat = x.toNat * 256 + b.toNat := by
  rw [BitVec.toNat_append, ← Nat.shiftLeft_add_eq_or_of_lt b.isLt, Nat.shiftLeft_eq]

/-- Four bytes, most significant first, as one number (12 R189). -/
theorem numberAt4_cons (n3 n2 n1 n0 : Byte) (rest : List Byte) :
    (BitVec.ofNat 32 (numberAt4 (n3 :: n2 :: n1 :: n0 :: rest) 0) : Seq) = n3 ++ n2 ++ n1 ++ n0 := by
  apply BitVec.eq_of_toNat_eq
  simp only [append_byte_toNat, BitVec.toNat_ofNat, numberAt4, byteAt, List.getD_cons_zero, List.getD_cons_succ, Nat.zero_add]
  have h3 := n3.isLt
  have h2 := n2.isLt
  have h1 := n1.isLt
  have h0 := n0.isLt
  omega

theorem inRange_some {lo hi n : Nat} (h : lo ≤ n) (h' : n ≤ hi) : inRange lo hi n = some n := by simp [inRange, h, h']

theorem inRange_none {lo hi n : Nat} (h : n < lo ∨ hi < n) : inRange lo hi n = none := by
  simp only [inRange, ite_eq_right_iff]
  omega

/-- The phases for which qualification holds state are all but two (02 R26). -/
theorem Phase.qualifies_eq (ph : Phase) : ph.qualifies = decide (ph ≠ .undefined ∧ ph ≠ .outOfService) := by
  cases ph <;> rfl

/-! ### The fields written out -/

/-- READ POINT of a defined point, written out (12 Table 12-5). -/
theorem State.pointFields_defined (s : State) (p : Point) {d : PointDef} (h : (s.point p).definition = some d) :
    s.pointFields p =
      [byte p.val, 1, (s.point p).phase.code, byte d.group.val, (if d.sense = .normallyOpen then 0 else 1 : Byte),
          byte d.filterMs] ++
        be2 d.onDelay ++ be2 d.offDelay ++ [(if d.mode = .continuous then 0 else 1 : Byte), byte d.chatterLimit] ++
        be2 d.chatterWindow ++ [byte d.label.length] ++ d.label ++
        [boolCode (decide ((s.point p).line = decide (d.sense = .normallyOpen))),
          (if (s.point p).filtered = .normal then 0 else 1 : Byte)] ++
        (if (s.point p).phase = .outOfService ∨ (s.point p).phase = .undefined then
          ([0xFF, 0xFF] : List Byte) ++ [0xFF, 0xFF, 0xFF, 0xFF]
         else
          [(if (s.point p).qualified = .normalQ then 0 else 1 : Byte), (s.point p).delay.code] ++
            be4 ((s.point p).delay.elapsed (s.point p).accumulated)) ++
        be4 (s.point p).accumulated ++ [byte (s.point p).raiseCount] ++ timeBytes (s.point p).window ++
        timeBytes (s.point p).restore ++ timeBytes (s.point p).realert ++
        [boolCode (decide ((s.group d.group).firstOut = some p))] ++ be4 s.generation.toNat := by
  have hs : d.sense.code = (if d.sense = .normallyOpen then 0 else 1 : Byte) := by cases d.sense <;> rfl
  have hm : d.mode.code = (if d.mode = .continuous then 0 else 1 : Byte) := by cases d.mode <;> rfl
  have hf : (s.point p).filtered.code = (if (s.point p).filtered = .normal then 0 else 1 : Byte) := by
    cases (s.point p).filtered <;> rfl
  have hl : ((s.point p).lineLevel d).code = boolCode (decide ((s.point p).line = decide (d.sense = .normallyOpen))) := by
    unfold PointState.lineLevel
    cases d.sense <;> cases (s.point p).line <;> rfl
  have hq : (s.point p).qualificationBytes =
      if (s.point p).phase = .outOfService ∨ (s.point p).phase = .undefined then
        ([0xFF, 0xFF] : List Byte) ++ [0xFF, 0xFF, 0xFF, 0xFF]
      else
        [(if (s.point p).qualified = .normalQ then 0 else 1 : Byte), (s.point p).delay.code] ++
          be4 ((s.point p).delay.elapsed (s.point p).accumulated) := by
    unfold PointState.qualificationBytes
    cases (s.point p).phase <;> cases (s.point p).qualified <;> rfl
  have hg : s.isFirstOut p = decide ((s.group d.group).firstOut = some p) := by
    simp [State.isFirstOut, State.groupOf, h]
  simp only [State.pointFields, PointState.levelBytes, PointState.accumulatedBytes, h, hs, hm, hf, hl, hq, hg, pointBlock,
    Option.isSome_some]
  simp [boolCode]

theorem State.renewLease_common (s : State) (l : Link) : (s.renewLease l).common = s.common := by
  simp [State.common]

theorem State.listPage_length (s : State) (start most : Nat) :
    (s.listPage start most).length = min most (s.alarmList.length - start) := by
  simp [State.listPage]

theorem State.journalPage_length (s : State) (first most : Nat) :
    (s.journalPage first most).length = min most (s.journal.length - first) := by
  simp [State.journalPage]

/-- What READ JOURNAL answers to its checked arguments (08 R149): the number of records asked for, and where the page starts. -/
def State.readJournalAnswer (s : State) : Option Nat → Option (Nat × Bool) → State × Answer
  | some most, some (first, truncated) => (s, .reply .ok (s.journalFields first most truncated))
  | some _, none => (s, .reply .badArgument [])
  | none, _ => (s, .reply .badArgument [])

/-- READ JOURNAL by the arguments its body names. The body stays a variable here, so that no number of it is ever computed. -/
theorem Accepts.readsJournal {s : State} {l : Link} {tag : Byte} {body : List Byte} (h : Accepts s l .readJournal tag body)
    {n : Seq} {most : Option Nat} {start : Option (Nat × Bool)} {r : Result} {fields : List Byte}
    (hm : inRange 1 8 (byteAt body 4) = most) (hn : BitVec.ofNat 32 (numberAt4 body 0) = n) (hs : s.journalStart n = start)
    (ha : s.readJournalAnswer most start = (s, .reply r fields)) :
    ∃ t, exec (.readJournal l) s = .next t ∧
      t = { s with session := s.sessionAfter l, chainA := t.chainA, chainB := t.chainB } ∧
      Answers s t l .readJournal tag r fields := by
  refine h.readsAs (c := .readJournal l) (own := fun q u => u.readJournalAnswer (inRange 1 8 (byteAt q.body 4))
    (u.journalStart (BitVec.ofNat 32 (numberAt4 q.body 0)))) rfl rfl (fun q u => ?_) ?_
  · generalize inRange _ _ _ = m, u.journalStart _ = start
    cases m <;> cases start <;> rfl
  · rw [hm, hn, State.renewLease_journalStart, hs]
    rcases most with _ | most
    · cases ha; rfl
    · rcases start with _ | ⟨first, truncated⟩
      · cases ha; rfl
      · cases ha
        simp only [State.readJournalAnswer, State.renewLease_journalFields]

/-- The statement's page of records (12 Table 12-5). -/
theorem State.readJournalAnswer_some (s : State) (most first : Nat) (truncated : Bool) :
    s.readJournalAnswer (some most) (some (first, truncated)) =
      (s, .reply .ok (boolCode truncated :: (be4 s.oldestSeq.toNat ++ be4 s.newestSeq.toNat ++
        [byte (min most (s.journal.length - first))] ++ ((s.journal.drop first).take most).flatMap Record.bytes))) := by
  simp only [State.readJournalAnswer, State.journalFields, State.journalPage_length]
  rfl

/-! ### The statement -/

/-- Settles O47: each read is answered at once, by its fields as the lease's renewal leaves them. -/
theorem readsAnswerAndChangeNothing : Obligations.ReadsAnswerAndChangeNothing := by
  intro l tag s
  refine ⟨fun h => h.reads rfl rfl ?_, fun n h => ⟨fun p hn => ⟨fun d hd => ?_, fun hcold => ?_⟩, fun hn => ?_⟩,
    fun n h => ⟨fun g hn => ?_, fun hn => ?_⟩, fun start most h => ⟨fun h1 h8 => ?_, fun hbad => ?_⟩,
    fun n3 n2 n1 n0 most h => ⟨fun h1 h8 hn => ⟨fun hp => ?_, fun hp => ?_, fun hp => ?_, fun hp => ?_⟩, fun hbad => ?_⟩⟩
  · refine congrArg (fun f => (s.renewLease l, Answer.reply .ok f)) ?_
    simp only [State.statusFields, identityBytes, Stamp.bytes, SessionUnit.claimFields, Delivery.statusBytes,
      State.renewLease_newestSeq, State.renewLease_oldestSeq, State.renewLease_session, State.sessionAfter,
      State.renewLease_rate, State.renewLease_time, State.renewLease_generation, State.renewLease_chainA,
      State.renewLease_chainB, State.renewLease_output, State.renewLease_common, State.renewLease_alarmList, resetCode_eq,
      seqBytes_eq, List.append_assoc, List.cons_append, List.nil_append]
    rfl
  · refine h.reads rfl rfl ?_
    dsimp only
    rw [show asPoint (byteAt [n] 0) = some p from asPoint_val hn]
    dsimp only
    rw [State.renewLease_pointFields, s.pointFields_defined p hd]
    rfl
  · refine h.reads rfl rfl ?_
    dsimp only
    rw [show asPoint (byteAt [n] 0) = some p from asPoint_val hn]
    dsimp only
    rw [State.renewLease_pointFields]
    have hd : (s.point p).definition = none := by rw [hcold]; rfl
    have hf : s.isFirstOut p = false := by simp [State.isFirstOut, State.groupOf, hd]
    simp only [State.pointFields, hf]
    rw [hcold]
    rfl
  · refine h.reads rfl rfl ?_
    dsimp only
    rw [show asPoint (byteAt [n] 0) = none from asPoint_none hn]
  · refine h.reads rfl rfl ?_
    dsimp only
    rw [show asGroup (byteAt [n] 0) = some g from asGroup_val hn]
    dsimp only
    rw [State.renewLease_groupFields]
    simp only [State.groupFields, pointCode_eq, Phase.qualifies_eq]
    rfl
  · refine h.reads rfl rfl ?_
    dsimp only
    rw [show asGroup (byteAt [n] 0) = none from asGroup_none hn]
  · refine h.reads rfl rfl ?_
    dsimp only
    rw [show inRange 1 8 (byteAt [start, most] 1) = some most.toNat from inRange_some h1 h8]
    dsimp only
    rw [State.renewLease_listFields]
    simp only [State.listFields, State.listPage_length, show byteAt [start, most] 0 = start.toNat from rfl, byte_toNat]
    rfl
  · refine h.reads rfl rfl ?_
    dsimp only
    rw [show inRange 1 8 (byteAt [start, most] 1) = none from inRange_none (by rw [byte_eq_zero] at hbad; simp [byteAt]; omega)]
  · exact h.readsJournal (inRange_some h1 h8) (numberAt4_cons n3 n2 n1 n0 [most]) (by rw [State.journalStart, if_neg hn, hp])
      (s.readJournalAnswer_some _ _ _)
  · exact h.readsJournal (inRange_some h1 h8) (numberAt4_cons n3 n2 n1 n0 [most]) (by rw [State.journalStart, if_neg hn, hp])
      (s.readJournalAnswer_some _ _ _)
  · exact h.readsJournal (inRange_some h1 h8) (numberAt4_cons n3 n2 n1 n0 [most]) (by rw [State.journalStart, if_neg hn, hp])
      (s.readJournalAnswer_some _ _ _)
  · exact h.readsJournal (start := none) (inRange_some h1 h8) (numberAt4_cons n3 n2 n1 n0 [most])
      (by rw [State.journalStart, if_neg hn, hp]) rfl
  · have hm : byteAt [n3, n2, n1, n0, most] 4 = most.toNat := rfl
    refine h.readsJournal rfl (numberAt4_cons n3 n2 n1 n0 [most]) rfl ?_
    rw [hm]
    rcases Nat.lt_or_ge most.toNat 1 with h1 | h1
    · rw [inRange_none (.inl h1)]; rfl
    · rcases Nat.lt_or_ge 8 most.toNat with h8 | h8
      · rw [inRange_none (.inr h8)]; rfl
      · have hn : (n3 ++ n2 ++ n1 ++ n0 : Seq) = 0 := by
          rw [byte_eq_zero] at hbad
          rcases hbad with h | h | h
          · omega
          · omega
          · exact h
        rw [inRange_some h1 h8, hn]
        rfl

end Sys2Proof.Machine
end

section
/-! SUPPORT. The warm restart (11 R186), block by block. -/

namespace Sys2Proof.Machine

/-- The end of the reply of an accepted RESTART (11 R186): the line and the place are free, then every block restarts. -/
theorem exec_transmitEnd_restarts {s : State} {l : Link} {f : TxFrame} {r : Reply} (hr : s.inReset = false)
    (hl : (s.chain l).line = some f) (hp : replyOnLine (s.chain l).places = some r) (hk : r.kind = 0x05)
    (ho : r.result = .ok) : exec (.transmitEnd l) s = .next ((s.freeLine l).warmRestart.startTx l) := by
  simp [exec, execTransmitEnd, State.whenRunning, hr, hl, hp, Reply.restarts, hk, ho, ReqKind.code]

/-- Every block but the journal at its values after a warm restart (11 R186). -/
def State.warmBlocks (s : State) : State :=
  { s with points := s.points.map PointState.warm, groups := s.groups.map fun g => { g with firstOut := none },
           alarmList := [], operator := s.operator.warm, output := s.output.warm, session := s.session.warm,
           chainA := s.chainA.warm, chainB := s.chainB.warm }

theorem State.warmRestart_eq (s : State) : s.warmRestart = s.warmBlocks.appendBare (.start .restart) .part := rfl

theorem State.warmBlocks_point (s : State) (p : Point) : s.warmBlocks.point p = (s.point p).warm := by
  simp [State.point, State.warmBlocks]

theorem State.warmBlocks_group (s : State) (g : Group) :
    s.warmBlocks.group g = { s.group g with firstOut := none } := by
  simp [State.group, State.warmBlocks]

theorem State.warmBlocks_chain (s : State) (m : Link) : s.warmBlocks.chain m = (s.chain m).warm := by
  cases m <;> rfl

/-- The record of the restart finds both deliveries OFF, so that it drops nothing of them (09 R153, R163). -/
theorem State.warmRestart_chain (s : State) (m : Link) : s.warmRestart.chain m = (s.chain m).warm := by
  have hd : (s.chain m).warm.delivery.state ≠ .live := by simp [Chain.warm, Delivery.close]
  rw [State.warmRestart_eq]
  have h : (s.warmBlocks.appendBare (.start .restart) .part).chain m = s.warmBlocks.makeRoom.chain m := by cases m <;> rfl
  rw [h, State.makeRoom, State.dropOldest]
  rw [← State.warmBlocks_chain] at hd ⊢
  repeat' split
  · rfl
  · rfl
  · cases m <;> simp_all [State.chain, Delivery.drop_idle]

theorem State.startTx_nothing {s : State} {l : Link} (hp : (s.chain l).places = []) (hd : (s.chain l).delivery.offers = []) :
    s.startTx l = s := by
  unfold State.startTx
  dsimp only
  rw [hp, hd]
  split <;> rfl

theorem Phase.warm_kept {ph : Phase} (h : ph ∈ [.undefined, .outOfService]) : ph.warm = ph := by
  simp only [List.mem_cons, List.not_mem_nil, or_false] at h
  rcases h with rfl | rfl <;> rfl

theorem Phase.warm_normal {ph : Phase} (h : ph ∉ [.undefined, .outOfService]) :
    ph.warm = .normal ∧ (ph.sequencing || decide (ph = .suppressed)) = true := by
  cases ph <;> first | exact ⟨rfl, rfl⟩ | exact absurd (by decide) h

/-- Qualification as it restarts from the filtered level (02 R42). -/
theorem PointState.requalify_eq (x : PointState) (d : PointDef) :
    x.requalify d =
      { x with
        qualified := .normalQ, accumulated := 0,
        delay := if x.filtered = .abnormal ∧ d.onDelay ≠ 0 then d.startOnDelay else .idle,
        restartRaise := decide (x.filtered = .abnormal ∧ d.onDelay = 0) } := by
  unfold PointState.requalify
  cases hf : x.filtered
  · simp [hf, PointState.unqualified]
  · by_cases h : d.onDelay = 0 <;> simp [hf, h, PointState.unqualified]

/-- A warm restart of a point keeps its line, definition and filter, and empties its chatter unit and its copy's mark. -/
theorem PointState.warm_frame (x : PointState) :
    x.warm =
      { x with
        qualified := x.warm.qualified, delay := x.warm.delay, accumulated := x.warm.accumulated,
        restartRaise := x.warm.restartRaise, phase := x.phase.warm, raiseCount := 0, window := none, restore := none,
        realert := none, shownPhase := x.phase.warm, shownMark := false } := by
  simp only [PointState.warm, PointState.requalify_eq, PointState.quiet]
  repeat' split
  all_goals rfl

/-- A defined point in service or SUPPRESSED requalifies (02 R42). -/
theorem PointState.warm_requalifies {x : PointState} {d : PointDef} (hd : x.definition = some d)
    (hp : x.phase ∉ [.undefined, .outOfService]) :
    x.warm.qualified = .normalQ ∧ x.warm.accumulated = 0 ∧
      x.warm.delay = (if x.filtered = .abnormal ∧ d.onDelay ≠ 0 then d.startOnDelay else .idle) ∧
      x.warm.restartRaise = decide (x.filtered = .abnormal ∧ d.onDelay = 0) := by
  simp [PointState.warm, hd, (Phase.warm_normal hp).2, PointState.requalify_eq, PointState.quiet]

/-- The statement's account of one point across the restart (02 R42, 03 R69, 06 R123, 07 R135). -/
theorem PointState.warm_restarts (x : PointState) :
    x.warm.line = x.line ∧ x.warm.definition = x.definition ∧ x.warm.filtered = x.filtered ∧
      x.warm.filterRun = x.filterRun ∧ x.warm.raiseCount = 0 ∧ x.warm.window = none ∧ x.warm.restore = none ∧
      x.warm.realert = none ∧ x.warm.shownMark = false ∧ x.warm.shownPhase = x.warm.phase ∧
      (x.phase ∈ [.undefined, .outOfService] → x.warm.phase = x.phase) ∧
      (x.phase ∉ [.undefined, .outOfService] → x.warm.phase = .normal ∧
        ∀ d, x.definition = some d →
          x.warm.qualified = .normalQ ∧ x.warm.accumulated = 0 ∧
          (x.filtered = .normal → x.warm.delay = .idle ∧ x.warm.restartRaise = false) ∧
          (x.filtered = .abnormal →
            (d.onDelay = 0 → x.warm.delay = .idle ∧ x.warm.restartRaise = true) ∧
            (d.onDelay ≠ 0 → x.warm.restartRaise = false ∧
              x.warm.delay = if d.mode = .continuous then .onDelay 0 else .accumulating))) := by
  have hs : ∀ d : PointDef, d.startOnDelay = if d.mode = .continuous then .onDelay 0 else .accumulating := fun d => by
    unfold PointDef.startOnDelay
    cases d.mode <;> rfl
  have hphase : x.warm.phase = x.phase.warm := rfl
  refine ⟨?_, x.warm_definition, ?_, ?_, rfl, rfl, rfl, rfl, rfl, rfl, fun h => hphase.trans (Phase.warm_kept h),
    fun h => ⟨hphase.trans (Phase.warm_normal h).1, fun d hd => ?_⟩⟩
  · rw [PointState.warm_frame]
  · rw [PointState.warm_frame]
  · rw [PointState.warm_frame]
  · obtain ⟨hq, ha, hdelay, hraise⟩ := PointState.warm_requalifies hd h
    exact ⟨hq, ha, fun hf => by simp [hdelay, hraise, hf],
      fun hf => ⟨fun h0 => by simp [hdelay, hraise, hf, h0], fun h0 => by simp [hdelay, hraise, hf, h0, hs]⟩⟩

/-- Settles O56: the restart is the blocks' warm values and one record, and the transmitter then finds nothing to send. -/
theorem warmRestartRestartsEveryBlock : Obligations.WarmRestartRestartsEveryBlock := by
  intro l s f r hr hj hl hp hk ho
  have hchain := (s.freeLine l).warmRestart_chain
  have hnothing : (s.freeLine l).warmRestart.startTx l = (s.freeLine l).warmRestart :=
    State.startTx_nothing (by rw [hchain]; rfl) (by rw [hchain]; rfl)
  refine ⟨_, exec_transmitEnd_restarts hr hl hp hk ho, ?_⟩
  rw [hnothing]
  refine ⟨?_, fun g => ?_, fun m => ?_, ?_, fun p => ?_⟩
  · refine State.eq_of_fields ?_
    simp [State.warmRestart_eq, State.appendBare, State.warmBlocks, OperatorUnit.warm, OutputUnit.warm, SessionUnit.warm]
  · rw [State.warmRestart_eq, State.appendBare, State.append_group, State.warmBlocks_group, State.freeLine_group]
  · rw [hchain]
    by_cases h : m = l
    · subst h
      simp [State.freeLine, Chain.warm, Delivery.close]
    · simp [State.freeLine, State.chain_setChain, h, Chain.warm, Delivery.close]
  · exact Grows.single s (u := (s.freeLine l).warmBlocks) hj (by simp [State.warmBlocks]) (by simp [State.warmBlocks])
      (by simp [State.warmBlocks]) rfl rfl rfl
  · rw [State.warmRestart_eq, State.appendBare, State.append_point, State.warmBlocks_point, State.freeLine_point]
    exact (s.point p).warm_restarts

end Sys2Proof.Machine
end

section
/-! SUPPORT. SET SERVICE in (01 R16), with the episode that an abnormal level may begin at once (03 R49). -/

namespace Sys2Proof.Machine

/-! ### The latches over two tellings -/

/-- The latches' conditions rest on the definitions and the copies of the phases (06 R119). -/
theorem State.hornCondition_of_copies {s t : State} (hd : SameDefinitions s t)
    (hc : ∀ q, (t.point q).shownPhase = (s.point q).shownPhase) : t.hornCondition = s.hornCondition := by
  simp only [State.hornCondition, hd.audible, hc]

theorem State.toneCondition_of_copies {s t : State} (hd : SameDefinitions s t)
    (hc : ∀ q, (t.point q).shownPhase = (s.point q).shownPhase) : t.toneCondition = s.toneCondition := by
  simp only [State.toneCondition, hd.audible, hc]

/-- A change of a point that keeps its definition and its copy keeps the latches as they follow (06 R119). -/
theorem Latched.modifyPoint {s t : State} {a b : Bool} (h : Latched s t a b) (p : Point) (f : PointState → PointState)
    (hd : (f (t.point p)).definition = (t.point p).definition) (hc : (f (t.point p)).shownPhase = (t.point p).shownPhase) :
    Latched s (t.modifyPoint p f) a b := by
  have hdefs := SameDefinitions.modifyPoint t p f hd
  have hcopies : ∀ q, ((t.modifyPoint p f).point q).shownPhase = (t.point q).shownPhase := fun q => by
    rw [State.point_modifyPoint]
    split
    · next hq => rw [hc, hq]
    · rfl
  unfold Latched at *
  rw [State.hornCondition_of_copies hdefs hcopies, State.toneCondition_of_copies hdefs hcopies]
  exact h

/-- A condition that holds after another point has gone to ALERT held before (06 R119): of HORN, unless that point is audible. -/
theorem State.hornCondition_before {t u : State} {p : Point} (hd : SameDefinitions t u)
    (ho : ∀ q, q ≠ p → (u.point q).shownPhase = (t.point q).shownPhase) (ha : t.audible p = false)
    (hu : u.hornCondition = true) : t.hornCondition = true := by
  simp only [State.hornCondition, List.any_eq_true, hd.audible, Bool.and_eq_true] at hu ⊢
  obtain ⟨q, hq, haud, hholds⟩ := hu
  have hne : q ≠ p := by
    rintro rfl
    simp [ha] at haud
  exact ⟨q, hq, haud, by rwa [← ho q hne]⟩

theorem State.toneCondition_before {t u : State} {p : Point} (hd : SameDefinitions t u)
    (ho : ∀ q, q ≠ p → (u.point q).shownPhase = (t.point q).shownPhase) (ha : (u.point p).shownPhase = .alert)
    (hu : u.toneCondition = true) : t.toneCondition = true := by
  simp only [State.toneCondition, List.any_eq_true, hd.audible, Bool.and_eq_true, decide_eq_true_eq] at hu ⊢
  obtain ⟨q, hq, haud, hring⟩ := hu
  have hne : q ≠ p := by
    rintro rfl
    simp [ha] at hring
  exact ⟨q, hq, haud, by rwa [← ho q hne]⟩

/-- A telling that sets no latch and then an ALERT of one point are, for the latches, the ALERT alone (06 R117 to R119). -/
theorem Latched.then_alert {s t u : State} {p : Point} (h : Latched s t false false) (k : Latched t u (t.audible p) false)
    (hd : SameDefinitions t u) (ho : ∀ q, q ≠ p → (u.point q).shownPhase = (t.point q).shownPhase)
    (ha : (u.point p).shownPhase = .alert) : Latched s u (t.audible p) false := by
  have hhorn : (((s.output.horn && t.hornCondition) || t.audible p) && u.hornCondition) =
      ((s.output.horn || t.audible p) && u.hornCondition) := by
    have hb := State.hornCondition_before hd ho (p := p)
    cases hu : u.hornCondition <;> cases hp : t.audible p <;> simp_all
  have htone : (s.output.tone && t.toneCondition && u.toneCondition) = (s.output.tone && u.toneCondition) := by
    have hb := State.toneCondition_before hd ho ha
    cases hu : u.toneCondition <;> simp_all
  unfold Latched at *
  rw [k, h]
  simp [hhorn, htone]

/-! ### Beginning an episode -/

theorem SameDefinitions.tell (s : State) (p : Point) (ph : Phase) (mark : Bool) : SameDefinitions s (s.tell p ph mark) :=
  .trans (t := s.copy p ph mark) (.modifyPoint s p (fun x => { x with shownPhase := ph, shownMark := mark }) rfl)
    (.of_tables rfl rfl)

/-- The entry an episode opens with (04 R73). -/
def State.newEntry (s : State) (p : Point) (d : PointDef) : Entry :=
  { point := p, group := d.group, phase := .alert, firstOut := s.takesMark d, raiseCount := 1, openSeq := s.nextSeq,
    openTime := s.time, ackedBy := none, ackedAt := none }

/-- What the begin of an episode does to the parts it touches (03 R49, 04 R73, R78). -/
structure Opens (s t : State) (p : Point) (d : PointDef) : Prop where
  point : t.point p = (s.point p).moved .alert none (s.takesMark d)
  others : OnlyPoint s t p
  otherGroups : OnlyGroup s t d.group
  group : t.group d.group =
    { s.group d.group with firstOut := if s.takesMark d then some p else (s.group d.group).firstOut }
  list : t.alarmList = s.alarmList ++ [s.newEntry p d]
  appends : s.journal.length ≤ Config.journalCapacity →
    Appends s t [(.raised .alert 1 (s.takesMark d), .part, some p, s.groupOf p)]
  latches : Latched s t (s.audible p) false
  definitions : SameDefinitions s t
  frame : t = { s with points := t.points, groups := t.groups, alarmList := t.alarmList, journal := t.journal,
                       nextSeq := t.nextSeq, output := t.output, chainA := t.chainA, chainB := t.chainB }

/-- The group of a point takes the mark of an episode that begins with it (04 R78). -/
def State.marking (s : State) (p : Point) (d : PointDef) : State :=
  if s.takesMark d then s.modifyGroup d.group fun g => { g with firstOut := some p } else s

theorem State.marking_frame (s : State) (p : Point) (d : PointDef) :
    s.marking p d = { s with groups := (s.marking p d).groups } := by
  unfold State.marking
  split <;> rfl

@[simp] theorem State.marking_pending (s : State) (p : Point) (d : PointDef) :
    (s.marking p d).pending = s.pending := by rw [State.marking_frame]

@[simp] theorem State.marking_supply (s : State) (p : Point) (d : PointDef) :
    (s.marking p d).supply = s.supply := by rw [State.marking_frame]

@[simp] theorem State.marking_rstnActive (s : State) (p : Point) (d : PointDef) :
    (s.marking p d).rstnActive = s.rstnActive := by rw [State.marking_frame]

@[simp] theorem State.marking_resetSource (s : State) (p : Point) (d : PointDef) :
    (s.marking p d).resetSource = s.resetSource := by rw [State.marking_frame]

@[simp] theorem State.marking_rate (s : State) (p : Point) (d : PointDef) :
    (s.marking p d).rate = s.rate := by rw [State.marking_frame]

@[simp] theorem State.marking_points (s : State) (p : Point) (d : PointDef) :
    (s.marking p d).points = s.points := by rw [State.marking_frame]

@[simp] theorem State.marking_generation (s : State) (p : Point) (d : PointDef) :
    (s.marking p d).generation = s.generation := by rw [State.marking_frame]

@[simp] theorem State.marking_alarmList (s : State) (p : Point) (d : PointDef) :
    (s.marking p d).alarmList = s.alarmList := by rw [State.marking_frame]

@[simp] theorem State.marking_journal (s : State) (p : Point) (d : PointDef) :
    (s.marking p d).journal = s.journal := by rw [State.marking_frame]

@[simp] theorem State.marking_nextSeq (s : State) (p : Point) (d : PointDef) :
    (s.marking p d).nextSeq = s.nextSeq := by rw [State.marking_frame]

@[simp] theorem State.marking_time (s : State) (p : Point) (d : PointDef) :
    (s.marking p d).time = s.time := by rw [State.marking_frame]

@[simp] theorem State.marking_operator (s : State) (p : Point) (d : PointDef) :
    (s.marking p d).operator = s.operator := by rw [State.marking_frame]

@[simp] theorem State.marking_output (s : State) (p : Point) (d : PointDef) :
    (s.marking p d).output = s.output := by rw [State.marking_frame]

@[simp] theorem State.marking_session (s : State) (p : Point) (d : PointDef) :
    (s.marking p d).session = s.session := by rw [State.marking_frame]

@[simp] theorem State.marking_chainA (s : State) (p : Point) (d : PointDef) :
    (s.marking p d).chainA = s.chainA := by rw [State.marking_frame]

@[simp] theorem State.marking_chainB (s : State) (p : Point) (d : PointDef) :
    (s.marking p d).chainB = s.chainB := by rw [State.marking_frame]

@[simp] theorem State.marking_choices (s : State) (p : Point) (d : PointDef) :
    (s.marking p d).choices = s.choices := by rw [State.marking_frame]

@[simp] theorem State.marking_point (s : State) (p : Point) (d : PointDef) (y : Point) :
    (s.marking p d).point y = s.point y := State.point_congr (by simp) y

@[simp] theorem State.marking_chain (s : State) (p : Point) (d : PointDef) (m : Link) :
    (s.marking p d).chain m = s.chain m := State.chain_congr (by simp) (by simp) m

theorem State.marking_group (s : State) (p : Point) (d : PointDef) (k : Group) :
    (s.marking p d).group k =
      if k = d.group then { s.group d.group with firstOut := if s.takesMark d then some p else (s.group d.group).firstOut }
      else s.group k := by
  unfold State.marking
  split
  · rw [State.group_modifyGroup]
  · split
    · next h => rw [h]
    · rfl

theorem State.marking_sameDefinitions (s : State) (p : Point) (d : PointDef) : SameDefinitions s (s.marking p d) := by
  unfold State.marking
  split
  · exact .modifyGroup s d.group (fun g => { g with firstOut := some p }) rfl
  · exact .rfl' s

/-- The state in which an episode's record stands in the journal and its entry in the list (03 R46 steps 1 to 3). -/
def State.opening (s : State) (p : Point) (d : PointDef) : State :=
  ((((s.marking p d).setPhase p .alert none).append (.raised .alert 1 (s.takesMark d)) .part (some p) (s.groupOf p)).openEntry
    (s.newEntry p d))

theorem State.openEpisode_eq (s : State) (p : Point) (d : PointDef) :
    s.openEpisode p d = (s.opening p d).tell p .alert (s.takesMark d) := by
  have hg : ((s.marking p d).setPhase p .alert none).groupOf p = s.groupOf p :=
    ((s.marking_sameDefinitions p d).trans (.setPhase _ p .alert none)).groupOf p
  rw [State.opening, ← hg]
  rfl

theorem State.opening_appends (s : State) (p : Point) (d : PointDef) (hb : s.journal.length ≤ Config.journalCapacity) :
    Appends s (s.opening p d) [(.raised .alert 1 (s.takesMark d), .part, some p, s.groupOf p)] := by
  have hrec : Appends s (((s.marking p d).setPhase p .alert none).append (.raised .alert 1 (s.takesMark d)) .part (some p)
      (s.groupOf p)) [(.raised .alert 1 (s.takesMark d), .part, some p, s.groupOf p)] :=
    .first hb (by simp) (by simp) (by simp) _ _ _ _
  exact hrec.congr rfl rfl rfl (by simp [State.opening])

theorem State.opening_sameDefinitions (s : State) (p : Point) (d : PointDef) : SameDefinitions s (s.opening p d) :=
  (s.marking_sameDefinitions p d).trans ((SameDefinitions.setPhase _ p .alert none).trans
    (.of_tables (by simp [State.opening]) (by simp [State.opening])))

theorem State.openEpisode_opens (s : State) (p : Point) (d : PointDef) : Opens s (s.openEpisode p d) p d := by
  have hdefs := s.opening_sameDefinitions p d
  rw [State.openEpisode_eq]
  constructor
  · simp [State.opening, State.point_tell, State.point_setPhase, PointState.moved]
  · intro q hq
    simp [State.opening, State.point_tell, State.point_setPhase, hq]
  · intro k hk
    simp [State.opening, State.marking_group, hk]
  · simp [State.opening, State.marking_group]
  · simp [State.opening, State.openEntry]
  · exact fun hb => (s.opening_appends p d hb).tell p .alert (s.takesMark d)
  · unfold Latched
    rw [State.tell_output, hdefs.audible]
    simp [State.opening]
  · exact hdefs.trans (.tell _ p .alert _)
  · exact State.eq_of_fields (by simp [State.opening])

/-- The chatter unit's part of a counted RAISE: nothing with a limit of 0 (02 R35, 07 R125). -/
def PointState.counted (d : PointDef) (x : PointState) : PointState := if d.chatterLimit = 0 then x else x.count d

theorem State.modifyPoint_id (s : State) (p : Point) : (s.modifyPoint p fun x => x) = s := by
  simp [State.modifyPoint, State.point]

/-- A RAISE of a point in NORMAL below its chatter limit begins an episode (02 R35, 03 R49, 07 R125). -/
theorem State.raise_opens {s : State} {p : Point} {d : PointDef} (hp : (s.point p).phase = .normal)
    (hc : d.chatterLimit = 0 ∨ (s.point p).countedRaise < d.chatterLimit) :
    s.raise p d = (s.modifyPoint p (PointState.counted d)).openEpisode p d := by
  by_cases h0 : d.chatterLimit = 0
  · have hid : PointState.counted d = fun x => x := funext fun x => by rw [PointState.counted, if_pos h0]
    rw [hid, State.modifyPoint_id]
    simp [State.raise, h0, State.engineRaise, hp]
  · have hcount : PointState.counted d = PointState.count d := funext fun x => by rw [PointState.counted, if_neg h0]
    have hlt := hc.resolve_left h0
    rw [hcount]
    simp [State.raise, h0, State.chatterRaise, hp, hlt, State.engineRaise, PointState.count]

/-! ### SET SERVICE in -/

/-- The delay that starts, by the mode (02 R27, R31). -/
theorem PointDef.startOnDelay_eq (d : PointDef) :
    d.startOnDelay = if d.mode = .continuous then .onDelay 0 else .accumulating := by
  unfold PointDef.startOnDelay
  cases d.mode <;> rfl

/-- A point entering service, before its level counts (01 R16 steps 1 to 4). -/
def PointState.entered (x : PointState) : PointState := x.unqualified.moved .normal none false

/-- The state in which a point has entered service, before its level counts (01 R16 steps 1 to 4). -/
def State.entered (s : State) (l : Link) (p : Point) : State :=
  (((s.modifyPoint p PointState.unqualified).setPhase p .normal none).advanceGeneration.appendPoint (.serviceIn .normal)
    (linkSource l) p).tell p .normal false

theorem State.putIn_eq (s : State) (l : Link) (p : Point) (d : PointDef) :
    s.putIn l p d = match (s.point p).filtered with
      | .normal => s.entered l p
      | .abnormal => (s.entered l p).beginAbnormal p d := rfl

/-- What entering service does, by a request of a link whose lease is renewed. -/
structure Enters (s u : State) (l : Link) (p : Point) : Prop where
  point : u.point p = (s.point p).entered
  others : OnlyPoint s u p
  appends : s.journal.length ≤ Config.journalCapacity → Appends s u [(.serviceIn .normal, linkSource l, some p, s.groupOf p)]
  latches : Latched s u false false
  definitions : SameDefinitions s u
  frame : u = { s with session := s.sessionAfter l, points := u.points, generation := nextGeneration s.generation,
                       journal := u.journal, nextSeq := u.nextSeq, output := u.output, chainA := u.chainA,
                       chainB := u.chainB }

theorem State.entered_enters (s : State) (l : Link) (p : Point) : Enters s ((s.renewLease l).entered l p) l p := by
  have hdefs : SameDefinitions s ((s.renewLease l).modifyPoint p PointState.unqualified) :=
    .trans (t := s.renewLease l) (.of_tables (by simp) (by simp)) (.modifyPoint _ p PointState.unqualified rfl)
  have hphase := hdefs.trans (.setPhase _ p .normal none)
  have happ : (s.renewLease l).entered l p =
      ((((s.renewLease l).modifyPoint p PointState.unqualified).setPhase p .normal none).advanceGeneration.append
        (.serviceIn .normal) (linkSource l) (some p) (s.groupOf p)).tell p .normal false := by
    rw [← hphase.groupOf]
    rfl
  rw [happ]
  constructor
  · simp [State.point_tell, State.point_setPhase, PointState.entered, PointState.moved]
  · intro q hq
    simp [State.point_tell, State.point_setPhase, State.point_modifyPoint, hq]
  · exact fun hb => .tell (.first hb (by simp) (by simp) (by simp) _ _ _ _) p .normal false
  · exact State.tell_latched (by simp) p false (by decide) (by decide)
  · exact hphase.trans (.trans (t := _) (.of_tables (by simp) (by simp)) (.tell _ p .normal false))
  · exact State.eq_of_fields (by simp [State.renewLease_session])

/-- The request is one for direction in, and it names a point by its number. -/
theorem State.serviceInRequest_accepts {s : State} (l : Link) {p : Point} {d : PointDef} (hd : (s.point p).definition = some d)
    (hp : (s.point p).phase = .outOfService) :
    (s.renewLease l).serviceInRequest l (some p) = ((s.renewLease l).putIn l p d).accepted := by
  simp [State.serviceInRequest, hd, hp]

/-- The state SET SERVICE in leaves when the point does not raise at once (01 R16, 02 R37). -/
theorem State.putIn_waits {s : State} (l : Link) {p : Point} {d : PointDef}
    (h : (s.point p).filtered = .normal ∨ d.onDelay ≠ 0) :
    s.putIn l p d = (s.entered l p).modifyPoint p fun x =>
      { x with delay := if (s.point p).filtered = .normal then x.delay else d.startOnDelay } := by
  rw [State.putIn_eq]
  cases hf : (s.point p).filtered with
  | normal => simp [State.modifyPoint_id]
  | abnormal =>
    have h0 : d.onDelay ≠ 0 := by simpa [hf] using h
    simp [State.beginAbnormal, h0]

/-- A point whose on-delay of 0 has made it ABNORMAL_Q, counted by the chatter unit (02 R29, 07 R125). -/
def PointState.raisedAtOnce (d : PointDef) (x : PointState) : PointState :=
  PointState.counted d { x with qualified := .abnormalQ, delay := .idle, accumulated := 0, restartRaise := false }

theorem PointState.raisedAtOnce_eq (d : PointDef) (x : PointState) :
    x.raisedAtOnce d =
      { x with
        qualified := .abnormalQ, delay := .idle, accumulated := 0, restartRaise := false,
        raiseCount := if d.chatterLimit = 0 then x.raiseCount else if x.window = none then 1 else x.raiseCount + 1,
        window := if d.chatterLimit = 0 then x.window else some (x.window.getD (d.chatterWindow * 1000)) } := by
  unfold PointState.raisedAtOnce PointState.counted
  split
  · rfl
  · cases x.window <;> simp [PointState.count, PointState.countedRaise, PointDef.windowMs]

theorem State.modifyPoint_modifyPoint (s : State) (p : Point) (f g : PointState → PointState) :
    (s.modifyPoint p f).modifyPoint p g = s.modifyPoint p fun x => g (f x) := by
  simp [State.modifyPoint, State.point]

/-- The state SET SERVICE in leaves when the point raises at once (01 R16, 02 R37, 03 R49). -/
theorem State.putIn_raises {s : State} (l : Link) {p : Point} {d : PointDef} (hf : (s.point p).filtered = .abnormal)
    (h0 : d.onDelay = 0) (he : ((s.entered l p).point p) = (s.point p).entered)
    (hc : d.chatterLimit = 0 ∨ (s.point p).countedRaise < d.chatterLimit) :
    s.putIn l p d = ((s.entered l p).modifyPoint p (PointState.raisedAtOnce d)).openEpisode p d := by
  rw [State.putIn_eq, hf]
  simp only [State.beginAbnormal, h0, if_true, State.becomeAbnormal]
  rw [State.raise_opens, State.modifyPoint_modifyPoint]
  · rfl
  · simp [he, PointState.entered, PointState.moved]
  · simpa [he, PointState.entered, PointState.moved, PointState.countedRaise, PointState.unqualified] using hc

/-- The state in which a point that raises at once stands when its episode begins. -/
def State.raising (s : State) (l : Link) (p : Point) (d : PointDef) : State :=
  ((s.renewLease l).entered l p).modifyPoint p (PointState.raisedAtOnce d)

theorem PointState.raisedAtOnce_definition (d : PointDef) (x : PointState) : (x.raisedAtOnce d).definition = x.definition := by
  rw [PointState.raisedAtOnce_eq]

theorem PointState.raisedAtOnce_shownPhase (d : PointDef) (x : PointState) : (x.raisedAtOnce d).shownPhase = x.shownPhase := by
  rw [PointState.raisedAtOnce_eq]

theorem State.raising_sameDefinitions (s : State) (l : Link) (p : Point) (d : PointDef) :
    SameDefinitions s (s.raising l p d) :=
  (s.entered_enters l p).definitions.trans (.modifyPoint _ p _ (PointState.raisedAtOnce_definition d _))

theorem State.raising_group (s : State) (l : Link) (p : Point) (d : PointDef) (k : Group) :
    (s.raising l p d).group k = s.group k :=
  State.group_congr (by rw [State.raising, State.modifyPoint_groups, (s.entered_enters l p).frame]) k

theorem State.raising_frame (s : State) (l : Link) (p : Point) (d : PointDef) :
    s.raising l p d =
      { s with session := s.sessionAfter l, points := (s.raising l p d).points, generation := nextGeneration s.generation,
               journal := (s.raising l p d).journal, nextSeq := (s.raising l p d).nextSeq,
               output := (s.raising l p d).output, chainA := (s.raising l p d).chainA,
               chainB := (s.raising l p d).chainB } := by
  rw [State.raising, (s.entered_enters l p).frame]
  rfl

/-- An episode begun after the point has entered service changes what either changes. -/
theorem Opens.frame_after {s r v : State} {p : Point} {d : PointDef} {l : Link} (h : Opens r v p d)
    (hr : r = { s with session := s.sessionAfter l, points := r.points, generation := nextGeneration s.generation,
                       journal := r.journal, nextSeq := r.nextSeq, output := r.output, chainA := r.chainA,
                       chainB := r.chainB }) :
    v = { s with session := s.sessionAfter l, points := v.points, groups := v.groups, alarmList := v.alarmList,
                 generation := nextGeneration s.generation, journal := v.journal, nextSeq := v.nextSeq, output := v.output,
                 chainA := v.chainA, chainB := v.chainB } :=
  h.frame.trans (by rw [hr])

/-- The entry of an episode begun after SERVICE_IN has the number after it (04 R73). -/
theorem State.newEntry_after {s u : State} {p : Point} {d : PointDef} {item : Item} (h : Appends s u [item])
    (ht : u.time = s.time) (hm : u.takesMark d = s.takesMark d) :
    u.newEntry p d = { s.newEntry p d with openSeq := seqNext s.nextSeq } := by
  have hseq : u.nextSeq = seqNext s.nextSeq := h.grows.2
  rw [State.newEntry, hm, hseq, ht]
  rfl

/-- An episode that begins as a point enters service, as the whole event does it (01 R16, 03 R49). -/
theorem State.raising_opens (s : State) (l : Link) (p : Point) (d : PointDef) (hd : (s.point p).definition = some d)
    (hj : s.journal.length ≤ Config.journalCapacity) :
    let v := (s.raising l p d).openEpisode p d
    v.point p = ((s.point p).entered.raisedAtOnce d).moved .alert none (s.takesMark d) ∧ OnlyPoint s v p ∧
      OnlyGroup s v d.group ∧
      v.group d.group =
        { s.group d.group with firstOut := if s.takesMark d then some p else (s.group d.group).firstOut } ∧
      v.alarmList = s.alarmList ++ [{ s.newEntry p d with openSeq := seqNext s.nextSeq }] ∧
      Latched s v (s.audible p) false ∧
      Appends s v [(.serviceIn .normal, linkSource l, some p, some d.group),
        (.raised .alert 1 (s.takesMark d), .part, some p, some d.group)] := by
  have he := s.entered_enters l p
  have hopens := (s.raising l p d).openEpisode_opens p d
  have hdefs := s.raising_sameDefinitions l p d
  have hgroup : s.groupOf p = some d.group := by simp [State.groupOf, hd]
  have htime : (s.raising l p d).time = s.time := by rw [State.raising_frame]
  have hlist : (s.raising l p d).alarmList = s.alarmList := by rw [State.raising_frame]
  have hmark : (s.raising l p d).takesMark d = s.takesMark d := by simp [State.takesMark, State.raising_group]
  have happ : Appends s (s.raising l p d) [(.serviceIn .normal, linkSource l, some p, some d.group)] := by
    rw [← hgroup]
    exact (he.appends hj).modifyPoint p _
  have hlatch : Latched s (s.raising l p d) false false :=
    he.latches.modifyPoint p _ (PointState.raisedAtOnce_definition d _) (PointState.raisedAtOnce_shownPhase d _)
  have hpoint : (s.raising l p d).point p = (s.point p).entered.raisedAtOnce d := by
    rw [State.raising, State.point_modifyPoint_self, he.point]
  have hothers : OnlyPoint s (s.raising l p d) p := fun q hq => by
    rw [State.raising, State.point_modifyPoint_ne _ hq]
    exact he.others q hq
  refine ⟨?_, fun q hq => (hopens.others q hq).trans (hothers q hq),
    fun k hk => (hopens.otherGroups k hk).trans (State.raising_group s l p d k), ?_, ?_, ?_, ?_⟩
  · rw [hopens.point, hpoint, hmark]
  · rw [hopens.group, hmark, State.raising_group]
  · rw [hopens.list, hlist, State.newEntry_after happ htime hmark]
  · rw [← hdefs.audible p]
    exact hlatch.then_alert hopens.latches hopens.definitions (fun q hq => congrArg PointState.shownPhase (hopens.others q hq))
      (by rw [hopens.point]; rfl)
  · have hopened := hopens.appends happ.bound_after
    rw [hmark, hdefs.groupOf, hgroup] at hopened
    exact happ.trans hopened (by rw [hopens.frame]) (by change 2 ≤ Config.journalCapacity; decide)

/-- Settles O45: the point enters service, and then its filtered level starts a delay, begins an episode, or does neither. -/
theorem serviceInStartsQualification : Obligations.ServiceInStartsQualification := by
  intro l tag number s h
  have hsel : asksIn { kind := ReqKind.setService.code, tag := tag, body := [number, 1] } = true := rfl
  have henter := s.entered_enters l
  refine ⟨fun p d hn hd hp hw => ?_, fun p d g hn hd hg hp hf h0 hc => ?_, fun hbad => ?_, fun p hn => ⟨fun hd => ?_,
    fun hd hp => ?_, fun hd hp hq => ?_⟩⟩
  · have hargs : servicePoint [number, 1] = some p := servicePoint_val hn (by decide)
    have he := henter p
    have hgroup : s.groupOf p = some d.group := by simp [State.groupOf, hd]
    have hput := (s.renewLease l).putIn_waits l (p := p) (d := d) (by simpa using hw)
    obtain ⟨t, ht, ho, hframe, hpoint, hlatch, hacts⟩ := h.pointChange (c := .setServiceIn l) (p := p) rfl hsel rfl (by decide)
      (by dsimp only; rw [hargs, State.serviceInRequest_accepts l hd hp, hput])
      (by rw [he.frame]; rfl) ((he.appends h.journal).modifyPoint p _)
      (fun q hq => by rw [State.point_modifyPoint_ne _ hq]; exact he.others q hq) (he.latches.modifyPoint p _ rfl rfl)
    rw [hgroup] at hacts
    refine ⟨t, ht, ho, hframe, ?_, hlatch, hacts⟩
    rw [hpoint, State.point_modifyPoint_self, he.point, PointDef.startOnDelay_eq]
    simp [PointState.entered, PointState.moved, PointState.unqualified]
  · have hargs : servicePoint [number, 1] = some p := servicePoint_val hn (by decide)
    have hput : (s.renewLease l).putIn l p d = (s.raising l p d).openEpisode p d :=
      (s.renewLease l).putIn_raises l (by simpa using hf) h0 (by simpa using (henter p).point) (by simpa using hc)
    have hmark : s.takesMark d = (g.firstOutEnabled && (s.group d.group).firstOut.isNone) := by simp [State.takesMark, hg]
    have haud : s.audible p = g.audible := by simp [State.audible, State.groupDefOf, State.groupOf, hd, hg]
    obtain ⟨hpoint, hothers, hgroups, hgroup, hlist, hlatch, happ⟩ := s.raising_opens l p d hd h.journal
    have hopen := ((s.raising l p d).openEpisode_opens p d).frame_after (s.raising_frame l p d)
    generalize (s.raising l p d).openEpisode p d = u at *
    obtain ⟨t, ht, hframe, hacts⟩ := h.configChange (c := .setServiceIn l) (u := u) rfl hsel rfl (by decide)
      (by dsimp only; rw [hargs, State.serviceInRequest_accepts l hd hp, hput]) (by rw [hopen]) happ
    have hpt : ∀ y, t.point y = u.point y := fun y => by rw [hframe]; rfl
    have hgrp : ∀ y, t.group y = u.group y := fun y => by rw [hframe]; rfl
    rw [hmark] at hpoint hgroup hacts
    refine ⟨t, ht, fun q hq => (hpt q).trans (hothers q hq), fun k hk => (hgrp k).trans (hgroups k hk), ?_, ?_,
      (hgrp _).trans hgroup, ?_, ?_, hacts⟩
    · rw [hframe, hopen]
      rfl
    · rw [hpt, hpoint, PointState.raisedAtOnce_eq]
      rfl
    · rw [hframe]
      refine hlist.trans ?_
      rw [State.newEntry, hmark]
    · rw [← haud]
      exact hlatch.of_output (by rw [hframe]) (by rw [hframe]) (by rw [hframe])
  all_goals refine h.turnsAway rfl hsel (by decide) (by decide) ?_
  · dsimp only
    rw [servicePoint_out (.inl hbad)]
    exact s.renewLease_turnedAway l _
  · dsimp only
    rw [servicePoint_val hn (by decide), ← State.renewLease_turnedAway]
    simp [State.serviceInRequest, hd]
  · obtain ⟨d, hd⟩ := Option.ne_none_iff_exists'.mp hd
    dsimp only
    rw [servicePoint_val hn (by decide), ← State.renewLease_turnedAway]
    simp [State.serviceInRequest, hd, hp]
  · obtain ⟨d, hd⟩ := Option.ne_none_iff_exists'.mp hd
    dsimp only
    rw [servicePoint_val hn (by decide), ← State.renewLease_turnedAway]
    simp [State.serviceInRequest, hd, hp, hq]

end Sys2Proof.Machine
end

section
/-! SUPPORT. The field inputs (02): the line and its filter, the delays of qualification, and the RAISE that begins an episode. -/

namespace Sys2Proof.Machine

/-! ### The line and its filter (02 R22, R23) -/

/-- Two updates of a point that agree on the point as it stands are one update. -/
theorem State.modifyPoint_congr {s : State} {p : Point} {f g : PointState → PointState} (h : f (s.point p) = g (s.point p)) :
    s.modifyPoint p f = s.modifyPoint p g := by
  simp only [State.modifyPoint, h]

/-- An update that leaves the point as it stands changes nothing. -/
theorem State.modifyPoint_of_fixed {s : State} {p : Point} {f : PointState → PointState} (h : f (s.point p) = s.point p) :
    s.modifyPoint p f = s :=
  (State.modifyPoint_congr h).trans (s.modifyPoint_id p)

theorem State.modifyPoint_onlyPoint (s : State) (p : Point) (f : PointState → PointState) :
    OnlyPoint s (s.modifyPoint p f) p := fun _ hq => s.point_modifyPoint_ne hq f

/-- The sense-corrected level, by whether the line stands as the sense's abnormal does (02 Table 2-1). -/
theorem Sense.correct_eq (sense : Sense) (active : Bool) :
    sense.correct active = if active = decide (sense = .normallyOpen) then .abnormal else .normal := by
  cases sense <;> cases active <;> rfl

/-- A point as the change of its line leaves it (02 R22, R23). -/
def PointState.lineChanged (active : Bool) (x : PointState) : PointState :=
  match x.definition with
  | some d => PointState.follow d { x with line := active }
  | none => { x with line := active }

/-- INPUT_LINE_CHANGE outside reset: nothing at a level already held, else the line and the filter's part. -/
theorem State.exec_inputLineChange {s : State} (p : Point) (active : Bool) (hr : s.inReset = false) :
    exec (.inputLineChange p active) s =
      .next (if (s.point p).line = active then s else s.modifyPoint p (PointState.lineChanged active)) := by
  simp only [exec, execInputLineChange]
  split
  · rfl
  · congr 1
    cases hd : (s.point p).definition with
    | none => exact State.modifyPoint_congr (by simp [PointState.lineChanged, hd])
    | some d =>
      simp only [hr, Bool.false_eq_true, if_false, State.modifyPoint_modifyPoint]
      exact State.modifyPoint_congr (by simp [PointState.lineChanged, hd])

/-- Back at the filtered level the run is abandoned (02 R23). -/
theorem PointState.lineChanged_back {x : PointState} {d : PointDef} {active : Bool} (hd : x.definition = some d)
    (h : d.sense.correct active = x.filtered) : x.lineChanged active = { x with line := active, filterRun := none } := by
  simp [PointState.lineChanged, hd, PointState.follow, PointState.lineLevel, h]

/-- Away from the filtered level a run begins, when none goes on (02 R23). -/
theorem PointState.lineChanged_away {x : PointState} {d : PointDef} {active : Bool} (hd : x.definition = some d)
    (h : d.sense.correct active ≠ x.filtered) (hrun : x.filterRun = none) :
    x.lineChanged active = { x with line := active, filterRun := some 0 } := by
  simp [PointState.lineChanged, hd, PointState.follow, PointState.lineLevel, h, hrun]

/-- Settles O12: a change of the line updates the one point, and the filter follows it by the point's definition. -/
theorem lineChangeRunsTheFilter : Obligations.LineChangeRunsTheFilter := by
  intro p active s hr
  refine ⟨_, s.exec_inputLineChange p active hr, ?_⟩
  by_cases hl : (s.point p).line = active
  · rw [if_pos hl]
    exact ⟨fun _ _ => rfl, rfl, fun _ => rfl, fun _ => by rw [← hl], fun _ _ hne => absurd hl hne⟩
  · rw [if_neg hl]
    refine ⟨s.modifyPoint_onlyPoint p _, rfl, fun h => absurd h hl, fun hd => ?_, fun d hd _ => ?_⟩
    · simp [PointState.lineChanged, hd]
    · rw [State.point_modifyPoint_self, ← Sense.correct_eq]
      exact ⟨PointState.lineChanged_back hd, PointState.lineChanged_away hd⟩

/-! ### The delays of qualification (02 R27 to R34) -/

/-- A point after a filtered transition to a level that neither raises nor clears it at once (02 R27, R28, R31, R33). -/
def PointState.delayMoved (d : PointDef) (level : Level) (x : PointState) : PointState :=
  match level, x.qualified, x.delay with
  | .abnormal, .normalQ, .idle => { x with delay := d.startOnDelay }
  | .abnormal, .normalQ, .forget _ => { x with delay := .accumulating }
  | .abnormal, .abnormalQ, .offDelay _ => { x with delay := .idle }
  | .normal, .normalQ, .idle => { x with restartRaise := false }
  | .normal, .normalQ, .onDelay _ => { x with delay := .idle }
  | .normal, .normalQ, .accumulating => x.pause d
  | .normal, .abnormalQ, .idle => { x with delay := .offDelay 0 }
  | _, _, _ => x

theorem State.takeAbnormal_moves {s : State} {p : Point} {d : PointDef}
    (h : (s.point p).qualified = .normalQ → (s.point p).delay = .idle → d.onDelay ≠ 0) :
    s.takeAbnormal p d = s.modifyPoint p (PointState.delayMoved d .abnormal) := by
  unfold State.takeAbnormal
  split
  case h_1 hq hd =>
    rw [State.beginAbnormal, if_neg (h hq hd)]
    exact State.modifyPoint_congr (by simp [PointState.delayMoved, hq, hd])
  case h_2 hq hd => exact State.modifyPoint_congr (by simp [PointState.delayMoved, hq, hd])
  case h_3 hq hd => exact State.modifyPoint_congr (by simp [PointState.delayMoved, hq, hd])
  all_goals
    next hq hd => exact (State.modifyPoint_of_fixed (by simp [PointState.delayMoved, hq, hd])).symm

theorem State.takeNormal_moves {s : State} {p : Point} {d : PointDef}
    (h : (s.point p).qualified = .abnormalQ → (s.point p).delay = .idle → d.offDelay ≠ 0) :
    s.takeNormal p d = s.modifyPoint p (PointState.delayMoved d .normal) := by
  unfold State.takeNormal
  split
  case h_4 hq hd =>
    rw [if_neg (h hq hd)]
    exact State.modifyPoint_congr (by simp [PointState.delayMoved, hq, hd])
  case h_1 hq hd => exact State.modifyPoint_congr (by simp [PointState.delayMoved, hq, hd])
  case h_2 hq hd => exact State.modifyPoint_congr (by simp [PointState.delayMoved, hq, hd])
  case h_3 hq hd => exact State.modifyPoint_congr (by simp [PointState.delayMoved, hq, hd])
  all_goals
    next hq hd => exact (State.modifyPoint_of_fixed (by simp [PointState.delayMoved, hq, hd])).symm

/-- The filtered level takes the line's level and the run ends (02 R23). -/
def PointState.refiltered (d : PointDef) (x : PointState) : PointState :=
  { x with filtered := d.sense.correct x.line, filterRun := none }

/-- The whole FILTERED_TRANSITION whose run has reached the filter time (02 R23, R24). -/
theorem State.exec_filteredTransition {s : State} {p : Point} {d : PointDef} {e : Nat} (hr : s.inReset = false)
    (hd : (s.point p).definition = some d) (hf : (s.point p).filterRun = some e) (hle : d.filterMs ≤ e) :
    exec (.filteredTransition p) s =
      .next (if (s.point p).phase = .outOfService then s.modifyPoint p (PointState.refiltered d)
        else ((s.modifyPoint p (PointState.refiltered d)).qualify p d (d.sense.correct (s.point p).line)).finish) := by
  have hdue : s.filterDue p = some d := by simp [State.filterDue, hd, hf, hle]
  simp only [exec, execFilteredTransition, State.whenRunning, hr, hdue, Bool.false_eq_true, if_false]
  rfl

/-- FILTERED_TRANSITION in a phase but OUT_OF_SERVICE that neither raises nor clears (02 R27, R28, R31, R33). -/
theorem State.exec_filteredTransition_moves {s : State} {p : Point} {d : PointDef} {e : Nat} (hr : s.inReset = false)
    (hd : (s.point p).definition = some d) (hf : (s.point p).filterRun = some e) (hle : d.filterMs ≤ e)
    (hp : (s.point p).phase ≠ .outOfService) (hup : ¬ RaisesBy s p d (.filteredTransition p))
    (hdown : ¬ ClearsBy s p d (.filteredTransition p)) :
    exec (.filteredTransition p) s =
      .next (s.modifyPoint p fun x => (x.refiltered d).delayMoved d (d.sense.correct (s.point p).line)).finish := by
  have hpoint : (s.modifyPoint p (PointState.refiltered d)).point p = (s.point p).refiltered d := s.point_modifyPoint_self p _
  have hqualify : (s.modifyPoint p (PointState.refiltered d)).qualify p d (d.sense.correct (s.point p).line) =
      (s.modifyPoint p (PointState.refiltered d)).modifyPoint p
        (PointState.delayMoved d (d.sense.correct (s.point p).line)) := by
    cases hl : d.sense.correct (s.point p).line with
    | abnormal =>
      refine State.takeAbnormal_moves fun hq hi h0 => hup ?_
      rw [hpoint] at hq hi
      exact .inr (.inr (.inr ⟨rfl, hq, hi, h0, hl, e, hf, hle⟩))
    | normal =>
      refine State.takeNormal_moves fun hq hi h0 => hdown ?_
      rw [hpoint] at hq hi
      exact .inr ⟨rfl, hq, hi, h0, hl, e, hf, hle⟩
  rw [State.exec_filteredTransition hr hd hf hle, if_neg hp, hqualify, State.modifyPoint_modifyPoint]

/-- Settles O13: the transition updates the one point, by the condition and the delay in which it finds it. -/
theorem filteredTransitionMovesTheDelay : Obligations.FilteredTransitionMovesTheDelay := by
  intro p s d e hr hd hf hle hquiet
  by_cases hp : (s.point p).phase = .outOfService
  · refine ⟨_, by rw [State.exec_filteredTransition hr hd hf hle, if_pos hp], s.modifyPoint_onlyPoint p _, rfl,
      fun l => .of_eq (by simp), fun _ => s.point_modifyPoint_self p _, fun h => absurd hp h, fun h => absurd hp h⟩
  · obtain ⟨hup, hdown⟩ := hquiet.resolve_left hp
    refine ⟨_, State.exec_filteredTransition_moves hr hd hf hle hp hup hdown, fun q hq => ?_,
      State.finish_points_only rfl, fun l => ?_, fun h => absurd h hp, fun _ hl => ?_, fun _ hl => ?_⟩
    · rw [State.finish_point, State.point_modifyPoint_ne _ hq]
    · simpa using State.finish_undisturbed (s.modifyPoint p _) l
    all_goals rw [State.finish_point, State.point_modifyPoint_self, hl]
    · refine ⟨fun hq hi hm => ?_, fun hq hi hm => ?_, fun f hq hi => ?_, fun f hq hi => ?_⟩
      · simp [PointState.delayMoved, PointState.refiltered, PointDef.startOnDelay_eq, hq, hi, hl, hm]
      · simp [PointState.delayMoved, PointState.refiltered, PointDef.startOnDelay_eq, hq, hi, hl, hm]
      · simp [PointState.delayMoved, PointState.refiltered, hq, hi, hl]
      · simp [PointState.delayMoved, PointState.refiltered, hq, hi, hl]
    · refine ⟨fun f hq hi => ?_, fun hq hi h0 hk => ?_, fun hq hi h0 => ?_, fun hq hi => ?_⟩
      · simp [PointState.delayMoved, PointState.refiltered, hq, hi, hl]
      · have hgo : ¬ (d.offDelay = 0 ∨ min (s.point p).accumulated (d.onDelay * 10 - 1) = 0) := not_or.mpr ⟨h0, hk⟩
        simp only [PointState.delayMoved, PointState.refiltered, hq, hi, hl, PointState.pause, PointState.kept,
          PointDef.onDelayMs, if_neg hgo]
      · simp only [PointState.delayMoved, PointState.refiltered, hq, hi, hl, PointState.pause, PointState.kept,
          PointDef.onDelayMs, if_pos h0]
      · simp [PointState.delayMoved, PointState.refiltered, hq, hi, hl]

/-! ### The RAISE that begins an episode (03 R49) -/

/-- A counted point as the statements write it (07 R125). -/
theorem PointState.counted_eq (d : PointDef) (x : PointState) :
    x.counted d =
      { x with
        raiseCount := if d.chatterLimit = 0 then x.raiseCount else if x.window = none then 1 else x.raiseCount + 1,
        window := if d.chatterLimit = 0 then x.window else some (x.window.getD (d.chatterWindow * 1000)) } := by
  unfold PointState.counted
  split
  · rfl
  · cases hw : x.window <;> simp [PointState.count, PointState.countedRaise, PointDef.windowMs, hw]

/-- The command that raises a point in NORMAL below its chatter limit begins its episode (02 R35, 03 R49, 07 R125). -/
theorem RaisesBy.exec_opens {s : State} {p : Point} {d : PointDef} {c : Instr} (hr : s.inReset = false)
    (hd : (s.point p).definition = some d) (hp : (s.point p).phase = .normal) (h : RaisesBy s p d c)
    (hc : d.chatterLimit = 0 ∨ (s.point p).countedRaise < d.chatterLimit) :
    exec c s = .next (((s.modifyPoint p fun x => (x.raised p c).counted d).openEpisode p d).finish) := by
  rw [h.exec_eq hr hd (by rw [hp]; decide), State.raise_opens (by simpa [PointState.raised] using hp)
    (by simpa [PointState.raised, PointState.countedRaise] using hc), State.modifyPoint_modifyPoint]


/-- What an event does that changes point `p` to `x`, begins its episode and ends (03 R49, 04 R73, R78). -/
structure Begins (s t : State) (p : Point) (d : PointDef) (x : PointState) : Prop where
  point : t.point p = x.moved .alert none (s.takesMark d)
  others : OnlyPoint s t p
  otherGroups : OnlyGroup s t d.group
  group : t.group d.group =
    { s.group d.group with firstOut := if s.takesMark d then some p else (s.group d.group).firstOut }
  list : t.alarmList = s.alarmList ++ [s.newEntry p d]
  grows : Grows s t [(.raised .alert 1 (s.takesMark d), .part, some p, s.groupOf p)]
  latches : Latched s t (s.audible p) false
  chains : ∀ l, Undisturbed (s.chain l) (t.chain l)
  frame : t = { s with points := t.points, groups := t.groups, alarmList := t.alarmList, journal := t.journal,
                       nextSeq := t.nextSeq, output := t.output, chainA := t.chainA, chainB := t.chainB }

/-- An episode begun after a change of its point that keeps the definition, with the end of the event. -/
theorem Opens.begins {s v : State} {p : Point} {d : PointDef} {f : PointState → PointState}
    (hf : (f (s.point p)).definition = (s.point p).definition) (hj : s.journal.length ≤ Config.journalCapacity)
    (h : Opens (s.modifyPoint p f) v p d) : Begins s v.finish p d (f (s.point p)) := by
  have hdefs := SameDefinitions.modifyPoint s p f hf
  have happ := h.appends hj
  rw [hdefs.groupOf] at happ
  have hlatch := h.latches
  rw [hdefs.audible] at hlatch
  exact {
    point := by rw [State.finish_point, h.point, State.point_modifyPoint_self]; rfl
    others := fun q hq => by rw [State.finish_point, h.others q hq, State.point_modifyPoint_ne s hq]
    otherGroups := fun k hk => (State.finish_group v k).trans (h.otherGroups k hk)
    group := (State.finish_group v _).trans h.group
    list := (State.finish_alarmList v).trans h.list
    grows := by rw [Grows, State.finish_journal, State.finish_time, State.finish_nextSeq]; exact happ.grows
    latches := Latched.of_output hlatch (by simp) (by simp) (by simp)
    chains := fun l => ((happ.deliveryOnly l).undisturbed).trans (v.finish_undisturbed l)
    frame := by rw [State.finish_frame v, h.frame]; rfl }

/-- Settles O15: the RAISE counts the point and opens its episode, whichever of the four ways it comes about. -/
theorem raiseOpensAnEpisode : Obligations.RaiseOpensAnEpisode := by
  intro c p s d g hr hj hd hg hraise hp hc
  have hmark : s.takesMark d = (g.firstOutEnabled && (s.group d.group).firstOut.isNone) := by simp [State.takesMark, hg]
  have haud : s.audible p = g.audible := by simp [State.audible, State.groupDefOf, State.groupOf, hd, hg]
  have hgroup : s.groupOf p = some d.group := by simp [State.groupOf, hd]
  have hbegins := ((s.modifyPoint p fun x => (x.raised p c).counted d).openEpisode_opens p d).begins
    (by rw [PointState.counted_eq]; rfl) hj
  obtain ⟨hpoint, hothers, hgroups, hmarked, hlist, hgrows, hlatch, hchains, hframe⟩ := hbegins
  rw [State.newEntry] at hlist
  rw [hmark] at hpoint hmarked hlist hgrows
  rw [hgroup] at hgrows
  rw [haud] at hlatch
  refine ⟨_, hraise.exec_opens hr hd hp hc, hothers, hgroups, hchains, hframe, ?_, hmarked, hlist, hgrows, hlatch⟩
  rw [hpoint, PointState.counted_eq]
  rfl

end Sys2Proof.Machine
end

section
/-! SUPPORT. One millisecond of the part (02 R40; log 3, 4, 6, 32): what each counter and each timer does in it. -/

namespace Sys2Proof.Machine

/-! ### The timers -/

theorem countUp_eq (n : Option Nat) : countUp n = n.map (· + 1) := by cases n <;> rfl

theorem countDown_eq (n : Option Nat) : countDown n = n.map (· - 1) := by cases n <;> rfl

/-- The point's timers as the statement counts them (02 R23, R26, R32; 03 R57; 07 R124). -/
theorem PointState.tick_eq (x : PointState) :
    x.tick =
      { x with
        filterRun := x.filterRun.map (· + 1),
        delay := match x.delay with
          | .onDelay e => .onDelay (e + 1)
          | .offDelay e => .offDelay (e + 1)
          | .forget e => .forget (e + 1)
          | .idle => .idle
          | .accumulating => .accumulating,
        accumulated := if x.delay = .accumulating then x.accumulated + 1 else x.accumulated,
        window := x.window.map (· - 1), restore := x.restore.map (· - 1), realert := x.realert.map (· - 1) } := by
  simp only [PointState.tick, countUp_eq, countDown_eq]
  cases x.delay <;> rfl

theorem State.tickTimers_point (s : State) (p : Point) : s.tickTimers.point p = (s.point p).tick := by
  simp [State.point, State.tickTimers]

theorem State.tickTimers_chain (s : State) (l : Link) : s.tickTimers.chain l = (s.chain l).tick := by cases l <;> rfl

/-! ### The counters and the host timer -/

/-- The millisecond of day advances, or DAY_ROLLOVER is queued in its place (08 R136; log 6). -/
theorem State.tickDay_eq (s : State) :
    s.tickDay =
      { s with
        pending := s.pending ++ (if s.time.ms = Config.lastMsOfDay then [.dayRollover] else []),
        time := { s.time with ms := if s.time.ms = Config.lastMsOfDay then s.time.ms else s.time.ms + 1 } } := by
  unfold State.tickDay
  by_cases h : s.time.ms = Config.lastMsOfDay
  · rw [if_pos h, if_pos h, if_pos h]
  · rw [if_neg h, if_neg h, if_neg h, List.append_nil]

/-- The cycle position advances, or PATTERN_CYCLE_WRAP is queued in its place (06 R108; log 6). -/
theorem State.tickCycle_eq (s : State) :
    s.tickCycle =
      { s with
        pending := s.pending ++ (if s.output.cycle = Config.lastCycle then [.patternCycleWrap] else []),
        output := { s.output with
          cycle := if s.output.cycle = Config.lastCycle then s.output.cycle else s.output.cycle + 1 } } := by
  unfold State.tickCycle
  by_cases h : s.output.cycle = Config.lastCycle
  · rw [if_pos h, if_pos h, if_pos h]
  · rw [if_neg h, if_neg h, if_neg h, List.append_nil, State.modifyOutput]

/-- The host timer is in its last millisecond at 1 ms, and would be at 0 (06 R112; log 6). -/
theorem OutputUnit.hostDue_iff (u : OutputUnit) : u.hostDue = true ↔ u.hostTimer = some 0 ∨ u.hostTimer = some 1 := by
  unfold OutputUnit.hostDue
  cases u.hostTimer with
  | none => simp
  | some n => simp only [Option.map_some, Option.getD_some, decide_eq_true_eq, Option.some.injEq]; omega

/-- The host timer runs down, or in its last millisecond LAMP_TEST_HOST_EXPIRY is queued in its place (06 R112, R115; log 6). -/
theorem State.tickHost_eq (s : State) :
    s.tickHost =
      { s with
        pending := s.pending ++
          (if s.output.hostTimer = some 0 ∨ s.output.hostTimer = some 1 then [.lampTestHostExpiry] else []),
        output := { s.output with hostTimer := s.output.hostTimer.map fun n => if n ≤ 1 then n else n - 1 } } := by
  unfold State.tickHost
  simp only [OutputUnit.hostDue_iff]
  split
  case isTrue h =>
    have hstays : s.output.hostTimer.map (fun n => if n ≤ 1 then n else n - 1) = s.output.hostTimer := by
      rcases h with h | h <;> simp [h]
    rw [hstays]
  case isFalse h =>
    have hruns : countDown s.output.hostTimer = s.output.hostTimer.map fun n => if n ≤ 1 then n else n - 1 := by
      cases hn : s.output.hostTimer with
      | none => rfl
      | some n =>
        have hgt : ¬ n ≤ 1 := by
          rw [hn, Option.some.injEq, Option.some.injEq] at h
          omega
        simp [countDown, hgt]
    simp [State.modifyOutput, hruns]

/-- One millisecond, with what it puts in the queue in the order rollover, wrap, expiry (log 32). -/
theorem State.tick_eq (s : State) :
    s.tick =
      { s.tickTimers with
        pending := s.pending ++ (if s.time.ms = Config.lastMsOfDay then [.dayRollover] else []) ++
          (if s.output.cycle = Config.lastCycle then [.patternCycleWrap] else []) ++
          (if s.output.hostTimer = some 0 ∨ s.output.hostTimer = some 1 then [.lampTestHostExpiry] else []),
        time := { s.time with ms := if s.time.ms = Config.lastMsOfDay then s.time.ms else s.time.ms + 1 },
        output := { s.output with
          cycle := if s.output.cycle = Config.lastCycle then s.output.cycle else s.output.cycle + 1,
          hostTimer := s.output.hostTimer.map fun n => if n ≤ 1 then n else n - 1 } } := by
  rw [State.tick, State.tickDay_eq, State.tickCycle_eq, State.tickHost_eq]
  rfl

/-- With an empty queue, out of reset and with nothing due, a step is one millisecond (log 3). -/
theorem step_ticks {s : State} (hq : s.pending = []) (hr : s.inReset = false) (hd : s.due = []) : step s = .next s.tick := by
  simp only [step, hq, State.idle, hr, hd, Bool.false_eq_true, if_false]

/-- Settles O24: the step is the tick, read off counter by counter and timer by timer. -/
theorem anIdleStepIsOneMillisecond : Obligations.AnIdleStepIsOneMillisecond := by
  intro s hq hr hd
  refine ⟨_, step_ticks hq hr hd, ?_⟩
  rw [State.tick_eq, hq]
  refine ⟨rfl, rfl, rfl, rfl, ?_, ?_, fun p => ?_, fun l => ?_⟩
  · simp only [State.tickTimers, PanelInput.tick, countUp_eq]
  · simp only [State.tickTimers, countDown_eq]
  · exact (s.tickTimers_point p).trans (PointState.tick_eq _)
  · refine Eq.trans (State.chain_congr rfl rfl l) ((s.tickTimers_chain l).trans ?_)
    simp only [Chain.tick, countUp_eq, countDown_eq]

end Sys2Proof.Machine
end

section
/-! SUPPORT. The cold reset (11 R187): the values it leaves in every block, and the outputs during a reset. -/

namespace Sys2Proof.Machine

/-! ### The values of every block -/

theorem State.cold_point (s : State) (source : ResetCause) (rate : LineRate) (p : Point) :
    (s.cold source rate).point p = { PointState.cold with line := (s.point p).line } := by
  simp [State.point, State.cold]

theorem State.cold_group (s : State) (source : ResetCause) (rate : LineRate) (g : Group) :
    (s.cold source rate).group g = GroupState.cold := by
  simp [State.group, State.cold, State.reset]

theorem strapRate_eq (rate1 rate0 : Bool) :
    strapRate rate1 rate0 =
      if rate1 then (if rate0 then .b115200 else .b57600) else (if rate0 then .b19200 else .b9600) := by
  cases rate1 <;> cases rate0 <;> rfl

/-- The source a cold reset goes by: a reset that power began is a POWER reset (11 R187; log 8). -/
theorem State.coldSource_eq (s : State) (cause : ResetCause) :
    s.coldSource cause = if cause = .power then .power else if s.inReset then s.resetSource else .line := by
  cases cause <;> rfl

theorem resetStart_eq (source : ResetCause) : resetStart source = if source = .power then .power else .line := by
  cases source <;> rfl

/-- The journal after a cold reset holds one record, so that the next drops nothing (08 R145, R147). -/
theorem State.cold_appendBare (s : State) (source : ResetCause) (rate : LineRate) (kind : RecordKind) (src : Source) :
    (s.cold source rate).appendBare kind src =
      { s.cold source rate with
        journal := recordsFrom 1 .cold [(.start (resetStart source), .part, none, none), (kind, src, none, none)],
        nextSeq := 3 } := by
  have hroom : (s.cold source rate).makeRoom = s.cold source rate :=
    if_pos (by change 1 < Config.journalCapacity; decide)
  rw [State.appendBare, State.append, hroom]
  rfl

/-- COLD_RESET leaves the cold values, with LAMP_TEST_ON after START when the TEST line is held through it (06 R122). -/
theorem exec_coldReset (cause : ResetCause) (rate1 rate0 : Bool) (s : State) :
    exec (.coldReset cause rate1 rate0) s =
      .next { s.cold (s.coldSource cause) (strapRate rate1 rate0) with
        journal := recordsFrom 1 .cold ((.start (resetStart (s.coldSource cause)), .part, none, none) ::
          (if s.operator.test.line then [(.lampTestOn, .panel, none, none)] else [])),
        nextSeq := if s.operator.test.line then 3 else 2 } := by
  have hexec : exec (.coldReset cause rate1 rate0) s =
      .next (if s.operator.test.line = true then
        (s.cold (s.coldSource cause) (strapRate rate1 rate0)).appendBare .lampTestOn .panel
        else s.cold (s.coldSource cause) (strapRate rate1 rate0)) := rfl
  rw [hexec, State.cold_appendBare]
  cases s.operator.test.line <;> rfl

/-! ### The outputs during a reset -/

/-- Every output is inactive while the part is held in reset (06 R109, R120 to R122). -/
theorem State.outputs_inReset {s : State} (h : s.inReset = true) :
    (∀ p, s.lampOn p = false) ∧ s.hornOutput = false ∧ s.toneOutput = false ∧ s.commonOutput = false := by
  simp [State.lampOn, State.hornOutput, State.toneOutput, State.commonOutput, h]

/-- The state RESET_ASSERTED leaves (11 R187; log 9). -/
def State.asserted (s : State) (cause : ResetCause) : State :=
  { s with
    supply := s.supply && decide (cause ≠ .power),
    rstnActive := s.rstnActive || decide (cause = .line),
    resetSource := if cause = .power then .power else if s.inReset then s.resetSource else .line,
    chainA := { s.chainA with line := none },
    chainB := { s.chainB with line := none } }

theorem exec_resetAsserted (cause : ResetCause) (s : State) : exec (.resetAsserted cause) s = .next (s.asserted cause) := rfl

theorem State.asserted_inReset (s : State) (cause : ResetCause) : (s.asserted cause).inReset = true := by
  cases cause <;> simp [State.asserted, State.inReset]

/-- Settles O57: the cold values block by block, and what RESET_ASSERTED holds until then. -/
theorem coldResetClearsEverything : Obligations.ColdResetClearsEverything := by
  refine ⟨fun cause rate1 rate0 s => ⟨_, exec_coldReset cause rate1 rate0 s, ?_⟩,
    fun cause s => ⟨_, exec_resetAsserted cause s, s.asserted_inReset cause, ?_⟩⟩
  · rw [← State.coldSource_eq, ← strapRate_eq, ← resetStart_eq]
    refine ⟨rfl, s.cold_point (s.coldSource cause) (strapRate rate1 rate0), fun g => ?_, rfl, rfl, rfl, rfl, rfl, rfl, rfl, rfl,
      fun line => ?_, rfl, rfl, rfl, rfl, rfl, rfl⟩
    · have hg := s.cold_group (s.coldSource cause) (strapRate rate1 rate0) g
      exact ⟨congrArg GroupState.definition hg, congrArg GroupState.firstOut hg⟩
    · cases line <;> rfl
  · obtain ⟨hlamps, hhorn, htone, hcommon⟩ := State.outputs_inReset (s.asserted_inReset cause)
    exact ⟨hlamps, hhorn, htone, hcommon, rfl, rfl, rfl, rfl⟩

end Sys2Proof.Machine
end

section
/-! SUPPORT. The table of points under the operations that do not touch it. -/

namespace Sys2Proof.Machine

/-! ### Records, entries and the output unit -/

@[simp] theorem State.appendBare_points (s : State) (kind : RecordKind) (src : Source) :
    (s.appendBare kind src).points = s.points := s.append_points _ _ _ _

@[simp] theorem State.appendPoint_points (s : State) (kind : RecordKind) (src : Source) (p : Point) :
    (s.appendPoint kind src p).points = s.points := s.append_points _ _ _ _

@[simp] theorem State.closeEntry_points (s : State) (p : Point) (src : Source) :
    (s.closeEntry p src).points = s.points := by
  rcases s.closeEntry_cases p src with ⟨-, h⟩ | ⟨e, -, -, h⟩ | ⟨e, -, -, h⟩ <;> simp [h]

@[simp] theorem State.lampSources_points (s : State) (src : Source) (f : OutputUnit → OutputUnit) :
    (s.lampSources src f).points = s.points := by
  unfold State.lampSources
  dsimp only
  split <;> simp

@[simp] theorem State.silence_points (s : State) (src : Source) : (s.silence src).points = s.points := by
  unfold State.silence
  split <;> simp

/-! ### The operator unit -/

@[simp] theorem State.beginAction_points (s : State) (a : Action) : (s.beginAction a).points = s.points := rfl

@[simp] theorem State.beginPress_points (s : State) (x : Press) : (s.beginPress x).points = s.points := by
  cases x <;> simp [State.beginPress]

@[simp] theorem State.takePress_points (s : State) (x : Press) : (s.takePress x).points = s.points := by
  unfold State.takePress
  split <;> simp

@[simp] theorem State.takePanelTransition_points (s : State) (line : PanelLine) (active : Bool) :
    (s.takePanelTransition line active).points = s.points := by
  unfold State.takePanelTransition
  split
  · simp
  · split <;> simp

@[simp] theorem State.examineGroup_points (s : State) (src : Source) (a : Action) (g : Group) :
    (s.examineGroup src a g).points = s.points := by
  unfold State.examineGroup
  split <;> simp

@[simp] theorem State.operatorRequest_points (s : State) (kind : ActionKind) (l : Link) (tag : Byte) (zeros : List Byte)
    (scope : Option Scope) : (s.operatorRequest kind l tag zeros scope).1.points = s.points := by
  unfold State.operatorRequest
  split
  · rfl
  · split <;> rfl

@[simp] theorem State.lampTestRequest_points (s : State) (l : Link) (n : Nat) :
    (s.lampTestRequest l n).1.points = s.points := by
  unfold State.lampTestRequest
  split
  · rfl
  · exact s.lampSources_points _ _

/-! ### Links, deliveries and sessions -/

@[simp] theorem State.confirmFrame_points (s : State) (l : Link) (body : List Byte) :
    (s.confirmFrame l body).points = s.points := by
  unfold State.confirmFrame
  dsimp only
  split
  · split <;> simp
  · rfl

@[simp] theorem State.takeFrame_points (s : State) (l : Link) (q : Request) : (s.takeFrame l q).points = s.points := by
  unfold State.takeFrame
  repeat' split
  all_goals simp

@[simp] theorem State.retransmissionExpiry_points (s : State) (l : Link) :
    (s.retransmissionExpiry l).points = s.points := by
  unfold State.retransmissionExpiry
  split <;> simp

@[simp] theorem State.subscribeRequest_points (s : State) (l : Link) (start : Option Seq) :
    (s.subscribeRequest l start).1.points = s.points := by
  unfold State.subscribeRequest
  split <;> simp

@[simp] theorem State.unsubscribeRequest_points (s : State) (l : Link) : (s.unsubscribeRequest l).1.points = s.points := by
  unfold State.unsubscribeRequest
  dsimp only
  split <;> simp

@[simp] theorem State.dropAuthority_points (s : State) (l : Link) : (s.dropAuthority l).points = s.points := by
  unfold State.dropAuthority
  split <;> simp

@[simp] theorem State.closeSession_points (s : State) (l : Link) (act : SessionAction) :
    (s.closeSession l act).points = s.points := by
  simp [State.closeSession]

@[simp] theorem State.openSession_points (s : State) (l : Link) : (s.openSession l).points = s.points := by
  unfold State.openSession
  dsimp only
  split <;> simp

@[simp] theorem State.claimRequest_points (s : State) (l : Link) : (s.claimRequest l).1.points = s.points := by
  unfold State.claimRequest
  split
  · simp
  · split <;> simp

@[simp] theorem State.releaseRequest_points (s : State) (l : Link) : (s.releaseRequest l).1.points = s.points := by
  unfold State.releaseRequest
  split <;> simp

@[simp] theorem State.restartRequest_points (s : State) (l : Link) : (s.restartRequest l).1.points = s.points := by
  unfold State.restartRequest
  split <;> simp

@[simp] theorem State.setTimeRequest_points (s : State) (l : Link) (arg : Option Stamp) :
    (s.setTimeRequest l arg).1.points = s.points := by
  cases arg with
  | none => rfl
  | some t => exact State.appendBare_points _ _ _

/-! ### Groups -/

@[simp] theorem State.defineGroupRequest_points (s : State) (l : Link) (arg : Option (Group × GroupDef)) :
    (s.defineGroupRequest l arg).1.points = s.points := by
  unfold State.defineGroupRequest
  split
  · rfl
  · split
    · simp [State.accepted, State.putGroup]
    · rfl

@[simp] theorem State.undefineGroupRequest_points (s : State) (l : Link) (arg : Option Group) :
    (s.undefineGroupRequest l arg).1.points = s.points := by
  unfold State.undefineGroupRequest
  split
  · rfl
  · repeat' split
    · rfl
    · simp [State.accepted, State.removeGroup]
    · rfl

/-! ### Requests -/

@[simp] theorem State.conclude_points (s : State) (l : Link) (q : Request) (a : Answer) :
    (s.conclude l q a).points = s.points := by rw [State.conclude_frame]

@[simp] theorem State.settle_points (s : State) (l : Link) (k : ReqKind) (a : Answer) :
    (s.settle l k a).points = s.points := by rw [State.settle_frame]

@[simp] theorem State.renewFor_points (s : State) (l : Link) (k : ReqKind) : (s.renewFor l k).points = s.points := by
  unfold State.renewFor
  split <;> simp

/-- A request leaves the points as they were, or as its owner leaves them (10 R174). -/
theorem State.serve_points_cases (s : State) (l : Link) (k : ReqKind) (sel : Request → Bool)
    (act : Request → State → State × Answer) :
    (s.serve l k sel act).points = s.points ∨
      ∃ q u, u.points = s.points ∧ (s.serve l k sel act).points = (act q u).1.points := by
  unfold State.serve State.whenRunning
  split
  · exact .inl rfl
  · dsimp only
    split
    · rename_i q _
      rw [State.settle_points, State.conclude_points]
      unfold State.handle
      split
      · exact .inl (s.renewFor_points l k)
      · exact .inr ⟨q, _, s.renewFor_points l k, rfl⟩
    · exact .inl rfl

end Sys2Proof.Machine
end

section
/-! SUPPORT. The phase and the qualified condition of a point stay in agreement (03 R44; 07 R124, R128): what an event does to the
point it changes, and the statement. -/

namespace Sys2Proof.Machine

/-! ### When a point agrees -/

theorem PointState.agrees.of_sequencing {x : PointState} (hp : x.phase.sequencing = true) (hd : x.definition.isSome = true)
    (hq : x.qualified = .abnormalQ ↔ (x.phase = .alert ∨ x.phase = .acked)) : x.agrees :=
  ⟨fun _ => ⟨hd, hq⟩, fun h => by rw [h] at hp; exact absurd hp (by decide)⟩

theorem PointState.agrees.of_suppressed {x : PointState} {d : PointDef} (hp : x.phase = .suppressed)
    (hd : x.definition = some d) (hl : d.chatterLimit ≠ 0) (hr : x.restore = none ∨ x.qualified = .normalQ) : x.agrees :=
  ⟨fun h => by rw [hp] at h; exact absurd h (by decide),
    fun _ => ⟨⟨d, hd, hl⟩, fun h => hr.resolve_left (Option.isSome_iff_ne_none.mp h)⟩⟩

/-- Out of service nothing is asked of a point. -/
theorem PointState.agrees.of_unserved {x : PointState} (h : x.phase = .undefined ∨ x.phase = .outOfService) : x.agrees := by
  rcases h with h | h <;> simp [PointState.agrees, h, Phase.sequencing]

/-- Agreement reads the phase, the definition, the qualified condition, and whether the restore timer runs. -/
theorem PointState.agrees.congr {x y : PointState} (h : x.agrees) (hp : y.phase = x.phase) (hd : y.definition = x.definition)
    (hq : y.qualified = x.qualified) (hr : y.restore.isSome = x.restore.isSome) : y.agrees := by
  unfold PointState.agrees at *
  rwa [hp, hd, hq, hr]

/-- A point whose phase alone has moved, to a sequencing phase. -/
theorem PointState.moved_agrees {x : PointState} {ph : Phase} (timer : Option Nat) (mark : Bool)
    (hp : ph.sequencing = true) (hd : x.definition.isSome = true)
    (hq : x.qualified = .abnormalQ ↔ (ph = .alert ∨ ph = .acked)) : (x.moved ph timer mark).agrees :=
  .of_sequencing hp hd hq

theorem PointState.agrees.isSome {x : PointState} (h : x.agrees) (hp : x.phase.sequencing = true) :
    x.definition.isSome = true := (h.1 hp).1

/-- A sequencing point is ABNORMAL_Q in ALERT and ACKED. -/
theorem PointState.agrees.abnormal {x : PointState} (h : x.agrees) (hp : x.phase = .alert ∨ x.phase = .acked) :
    x.qualified = .abnormalQ :=
  (h.1 (by rcases hp with hp | hp <;> rw [hp] <;> rfl)).2.mpr hp

/-- A sequencing point is NORMAL_Q in the other phases. -/
theorem PointState.agrees.not_abnormal {x : PointState} (h : x.agrees) (hs : x.phase.sequencing = true)
    (hp : ¬ (x.phase = .alert ∨ x.phase = .acked)) : x.qualified ≠ .abnormalQ := mt (h.1 hs).2.mp hp

/-- A SUPPRESSED point of a known definition has a chatter limit. -/
theorem PointState.agrees.limit {x : PointState} {d : PointDef} (h : x.agrees) (hd : x.definition = some d)
    (hp : x.phase = .suppressed) : d.chatterLimit ≠ 0 := by
  obtain ⟨⟨d', hd', hl⟩, -⟩ := h.2 hp
  obtain rfl : d' = d := by rw [hd] at hd'; exact (Option.some.inj hd').symm
  exact hl

/-! ### Events that keep agreement -/

/-- Every point that agrees in `s` agrees in `t`. -/
def AgreementKept (s t : State) : Prop := ∀ p, (s.point p).agrees → (t.point p).agrees

theorem AgreementKept.of_points {s t : State} (h : t.points = s.points) : AgreementKept s t := fun p hp => by
  rwa [State.point_congr h]

theorem AgreementKept.rfl' (s : State) : AgreementKept s s := .of_points rfl

theorem AgreementKept.trans {s t u : State} (h : AgreementKept s t) (k : AgreementKept t u) : AgreementKept s u :=
  fun p hp => k p (h p hp)

/-- An event that changes one point. -/
theorem AgreementKept.of_onlyPoint {s t : State} {p : Point} (ho : OnlyPoint s t p)
    (h : (s.point p).agrees → (t.point p).agrees) : AgreementKept s t := fun q hq => by
  by_cases e : q = p
  · subst e; exact h hq
  · rwa [ho q e]

theorem AgreementKept.modifyPoint {s : State} {p : Point} {f : PointState → PointState}
    (h : (s.point p).agrees → (f (s.point p)).agrees) : AgreementKept s (s.modifyPoint p f) :=
  .of_onlyPoint (s.modifyPoint_onlyPoint p f) (by rwa [State.point_modifyPoint_self])

theorem AgreementKept.finish {s t : State} (h : AgreementKept s t) : AgreementKept s t.finish :=
  h.trans (.of_points t.finish_points)

theorem AgreementKept.advanceAction {s t : State} (h : AgreementKept s t) (src : Source) (a : Action) (pos : Option WalkPos) :
    AgreementKept s (t.advanceAction src a pos) :=
  h.trans (.of_points (t.advanceAction_points src a pos))

theorem AgreementKept.whenRunning {s : State} {f : State → State} (h : AgreementKept s (f s)) :
    AgreementKept s (s.whenRunning f) := by
  unfold State.whenRunning
  split
  · exact .rfl' s
  · exact h

/-- A request whose owner keeps agreement keeps it (10 R174). -/
theorem AgreementKept.serve {s : State} {l : Link} {k : ReqKind} {sel : Request → Bool}
    {act : Request → State → State × Answer} (h : ∀ q u, AgreementKept u (act q u).1) :
    AgreementKept s (s.serve l k sel act) := by
  rcases s.serve_points_cases l k sel act with e | ⟨q, u, hu, e⟩
  · exact .of_points e
  · exact .trans (.of_points hu) ((h q u).trans (.of_points e))

/-- A request whose owner leaves the points alone. -/
theorem AgreementKept.serve_points {s : State} {l : Link} {k : ReqKind} {sel : Request → Bool}
    {act : Request → State → State × Answer} (h : ∀ q u, (act q u).1.points = u.points) :
    AgreementKept s (s.serve l k sel act) := .serve fun q u => .of_points (h q u)

/-- SET TIME leaves the points alone, whatever its body reads as. -/
theorem AgreementKept.serve_setTime (s : State) (l : Link) (parse : Request → Option Stamp) :
    AgreementKept s (s.serve l .setTime anyRequest fun q u => u.setTimeRequest l (parse q)) :=
  .serve_points fun q u => u.setTimeRequest_points l (parse q)

/-! ### Phase changes -/

/-- A phase change within or out of an episode changes the one point, in its phase, re-alert timer and copy (03 R46, R58). -/
theorem State.move_point (s : State) (p : Point) (ph : Phase) (timer : Option Nat) (kind : RecordKind) (src : Source)
    (upd : Entry → Entry) : ∃ mark, (s.move p ph timer kind src upd).point p = (s.point p).moved ph timer mark := by
  cases h : ph.hasEntry
  · exact ⟨_, (s.move_closes p ph timer kind src upd h).point⟩
  · exact ⟨_, (s.move_mirrors p ph timer kind src upd h).point⟩

theorem State.move_onlyPoint (s : State) (p : Point) (ph : Phase) (timer : Option Nat) (kind : RecordKind) (src : Source)
    (upd : Entry → Entry) : OnlyPoint s (s.move p ph timer kind src upd) p := by
  cases h : ph.hasEntry
  · exact (s.move_closes p ph timer kind src upd h).others
  · exact (s.move_mirrors p ph timer kind src upd h).others

/-- A phase change to a sequencing phase that suits the point's qualified condition. -/
theorem AgreementKept.move {s : State} {p : Point} {ph : Phase} {timer : Option Nat} {kind : RecordKind} {src : Source}
    {upd : Entry → Entry} (hp : ph.sequencing = true) (hs : (s.point p).phase.sequencing = true)
    (hq : (s.point p).agrees → ((s.point p).qualified = .abnormalQ ↔ (ph = .alert ∨ ph = .acked))) :
    AgreementKept s (s.move p ph timer kind src upd) := by
  refine .of_onlyPoint (s.move_onlyPoint p ph timer kind src upd) fun h => ?_
  obtain ⟨mark, hm⟩ := s.move_point p ph timer kind src upd
  rw [hm]
  exact PointState.moved_agrees timer mark hp (h.isSome hs) (hq h)

/-- Where a cleared and acknowledged point goes it is in service, and neither in ALERT nor ACKED (03 Table 3-1). -/
theorem SequenceType.settled_sequencing (q : SequenceType) : q.settled.sequencing = true := by cases q <;> rfl

theorem SequenceType.settled_quiet (q : SequenceType) : ¬ (q.settled = .alert ∨ q.settled = .acked) := by
  cases q <;> decide

/-- A per-point ACK moves an ABNORMAL_Q point to ACKED, or a NORMAL_Q point to where it settles (03 R53, R54). -/
theorem State.ackPoint_kept (s : State) (p : Point) (src : Source) : AgreementKept s (s.ackPoint p src).1 := by
  unfold State.ackPoint
  split
  case h_1 hp => exact .move rfl (by rw [hp]; rfl) fun h => iff_of_true (h.abnormal (.inl hp)) (.inr rfl)
  case h_2 hp =>
    exact .move (SequenceType.settled_sequencing _) (by rw [hp]; rfl) fun h =>
      iff_of_false (h.not_abnormal (by rw [hp]; rfl) (by rw [hp]; decide)) (SequenceType.settled_quiet _)
  all_goals exact .rfl' s

/-- A per-point RESET moves a NORMAL_Q point to NORMAL (03 R56). -/
theorem State.resetPoint_kept (s : State) (p : Point) (src : Source) : AgreementKept s (s.resetPoint p src).1 := by
  have key (hp : (s.point p).phase = .waitReset ∨ (s.point p).phase = .ringback) :
      AgreementKept s (s.move p .normal none (.resetPoint .normal) src id) := by
    have hs : (s.point p).phase.sequencing = true := by rcases hp with hp | hp <;> rw [hp] <;> rfl
    exact .move rfl hs fun h => iff_of_false
      (h.not_abnormal hs (by rcases hp with hp | hp <;> rw [hp] <;> decide)) (by decide)
  unfold State.resetPoint
  split
  case h_1 hp => exact key (.inl hp)
  case h_2 hp => exact key (.inr hp)
  all_goals exact .rfl' s

theorem State.clearFirstOut_kept (s : State) (g : Group) (src : Source) : AgreementKept s (s.clearFirstOut g src).1 := by
  unfold State.clearFirstOut
  split
  · exact .rfl' s
  · exact .trans (.of_points (by simp)) (.modifyPoint fun h => h.congr rfl rfl rfl rfl)

/-! ### RAISE and CLEAR -/

theorem State.reraise_point (s : State) (p : Point) : ∃ mark, (s.reraise p).point p = (s.point p).moved .alert none mark := by
  unfold State.reraise
  split
  · exact s.move_point p _ _ _ _ _
  · exact s.move_point p _ _ _ _ _

theorem State.reraise_onlyPoint (s : State) (p : Point) : OnlyPoint s (s.reraise p) p := by
  unfold State.reraise
  split
  · exact s.move_onlyPoint p _ _ _ _ _
  · exact s.move_onlyPoint p _ _ _ _ _

theorem State.engineRaise_onlyPoint (s : State) (p : Point) (d : PointDef) : OnlyPoint s (s.engineRaise p d) p := by
  unfold State.engineRaise
  split
  case h_1 => exact (s.openEpisode_opens p d).others
  case h_2 | h_3 | h_4 => exact s.reraise_onlyPoint p
  all_goals exact fun _ _ => rfl

/-- The sequence engine leaves an ABNORMAL_Q point in ALERT or ACKED, if it is in service (03 Table 3-1). -/
theorem State.engineRaise_agrees {s : State} {p : Point} {d : PointDef} (hd : (s.point p).definition = some d)
    (hq : (s.point p).qualified = .abnormalQ) (hp : (s.point p).phase ≠ .suppressed) :
    ((s.engineRaise p d).point p).agrees := by
  have hsome : (s.point p).definition.isSome = true := by rw [hd]; rfl
  have alert {t : State} {mark : Bool} (h : t.point p = (s.point p).moved .alert none mark) : (t.point p).agrees := by
    rw [h]
    exact PointState.moved_agrees none mark rfl hsome (iff_of_true hq (.inl rfl))
  have again : ((s.reraise p).point p).agrees := by
    obtain ⟨mark, h⟩ := s.reraise_point p
    exact alert h
  unfold State.engineRaise
  split
  case h_1 => exact alert (s.openEpisode_opens p d).point
  case h_2 | h_3 | h_4 => exact again
  case h_5 hph => exact .of_sequencing (by rw [hph]; rfl) hsome (iff_of_true hq (.inl hph))
  case h_6 hph => exact .of_sequencing (by rw [hph]; rfl) hsome (iff_of_true hq (.inr hph))
  case h_7 hph => exact .of_unserved (.inl hph)
  case h_8 hph => exact .of_unserved (.inr hph)
  case h_9 hph => exact absurd hph hp

theorem State.suppress_onlyPoint (s : State) (p : Point) : OnlyPoint s (s.suppress p) p := fun q hq =>
  (State.move_onlyPoint _ p _ _ _ _ _ q hq).trans (s.point_modifyPoint_ne hq _)

/-- A suppressed point has a chatter limit and rests its restore timer (07 R127). -/
theorem State.suppress_agrees {s : State} {p : Point} {d : PointDef} (hd : (s.point p).definition = some d)
    (hl : d.chatterLimit ≠ 0) : ((s.suppress p).point p).agrees := by
  obtain ⟨mark, h⟩ := (s.modifyPoint p PointState.quiet).move_point p .suppressed none (.suppressed .suppressed) .part id
  rw [State.point_modifyPoint_self] at h
  rw [State.suppress, h]
  exact .of_suppressed rfl hd hl (.inl rfl)

theorem State.raise_onlyPoint (s : State) (p : Point) (d : PointDef) : OnlyPoint s (s.raise p d) p := by
  unfold State.raise State.chatterRaise
  split
  · exact s.engineRaise_onlyPoint p d
  · split
    · exact s.modifyPoint_onlyPoint p _
    · split
      · exact fun q hq => (State.engineRaise_onlyPoint _ p d q hq).trans (s.point_modifyPoint_ne hq _)
      · exact s.suppress_onlyPoint p

/-- A RAISE of an ABNORMAL_Q point leaves it agreeing, whatever its phase (02 R35, 07 R125, R127, R128). -/
theorem State.raise_agrees {s : State} {p : Point} {d : PointDef} (hd : (s.point p).definition = some d)
    (hq : (s.point p).qualified = .abnormalQ) (hs : (s.point p).phase = .suppressed → d.chatterLimit ≠ 0) :
    ((s.raise p d).point p).agrees := by
  by_cases h0 : d.chatterLimit = 0
  · rw [State.raise, if_pos h0]
    exact State.engineRaise_agrees hd hq fun h => hs h h0
  · rw [State.raise, if_neg h0, State.chatterRaise]
    split
    case isTrue hp =>
      rw [State.point_modifyPoint_self]
      exact .of_suppressed hp hd h0 (.inl rfl)
    case isFalse hp =>
      split
      · exact State.engineRaise_agrees (by simpa [PointState.count] using hd) (by simpa [PointState.count] using hq)
          (by simpa [PointState.count] using hp)
      · exact State.suppress_agrees hd h0

theorem State.engineClear_onlyPoint (s : State) (p : Point) : OnlyPoint s (s.engineClear p) p := by
  unfold State.engineClear
  split
  case h_1 | h_2 => exact s.move_onlyPoint p _ _ _ _ _
  all_goals exact fun _ _ => rfl

/-- The sequence engine leaves a NORMAL_Q point out of ALERT and ACKED (03 R51, R52). -/
theorem State.engineClear_agrees {s : State} {p : Point} (hd : (s.point p).definition.isSome = true)
    (hq : (s.point p).qualified = .normalQ) (hp : (s.point p).phase ≠ .suppressed) : ((s.engineClear p).point p).agrees := by
  have hn : (s.point p).qualified ≠ .abnormalQ := by rw [hq]; decide
  have settles {ph : Phase} {kind : RecordKind} (hs : ph.sequencing = true) (hph : ¬ (ph = .alert ∨ ph = .acked)) :
      ((s.move p ph none kind .part id).point p).agrees := by
    obtain ⟨mark, h⟩ := s.move_point p ph none kind .part id
    rw [h]
    exact PointState.moved_agrees none mark hs hd (iff_of_false hn hph)
  have stays (hs : (s.point p).phase.sequencing = true) (h : ¬ ((s.point p).phase = .alert ∨ (s.point p).phase = .acked)) :
      (s.point p).agrees := .of_sequencing hs hd (iff_of_false hn h)
  unfold State.engineClear
  split
  case h_1 => exact settles rfl (by decide)
  case h_2 => exact settles (SequenceType.settled_sequencing _) (SequenceType.settled_quiet _)
  case h_7 hph => exact .of_unserved (.inl hph)
  case h_8 hph => exact .of_unserved (.inr hph)
  case h_9 hph => exact absurd hph hp
  all_goals
    next hph => exact stays (by rw [hph]; rfl) (by rw [hph]; decide)

theorem State.clear_onlyPoint (s : State) (p : Point) (d : PointDef) : OnlyPoint s (s.clear p d) p := by
  unfold State.clear State.chatterClear
  split
  · exact s.engineClear_onlyPoint p
  · split
    · exact s.modifyPoint_onlyPoint p _
    · exact s.engineClear_onlyPoint p

/-- A CLEAR of a NORMAL_Q point leaves it agreeing, whatever its phase (02 R35, 07 R128). -/
theorem State.clear_agrees {s : State} {p : Point} {d : PointDef} (hd : (s.point p).definition = some d)
    (hq : (s.point p).qualified = .normalQ) (hs : (s.point p).phase = .suppressed → d.chatterLimit ≠ 0) :
    ((s.clear p d).point p).agrees := by
  have hsome : (s.point p).definition.isSome = true := by rw [hd]; rfl
  by_cases h0 : d.chatterLimit = 0
  · rw [State.clear, if_pos h0]
    exact State.engineClear_agrees hsome hq fun h => hs h h0
  · rw [State.clear, if_neg h0, State.chatterClear]
    split
    case isTrue hp =>
      rw [State.point_modifyPoint_self]
      exact .of_suppressed hp hd h0 (.inr hq)
    case isFalse hp => exact State.engineClear_agrees hsome hq hp

/-! ### Qualification -/

theorem State.becomeAbnormal_kept {s : State} {p : Point} {d : PointDef} (hd : (s.point p).definition = some d) :
    AgreementKept s (s.becomeAbnormal p d) := by
  refine .of_onlyPoint (fun q hq => (State.raise_onlyPoint _ p d q hq).trans (s.point_modifyPoint_ne hq _)) fun h => ?_
  refine State.raise_agrees ?_ ?_ ?_ <;> rw [State.point_modifyPoint_self]
  · exact hd
  · exact h.limit hd

theorem State.becomeNormal_kept {s : State} {p : Point} {d : PointDef} (hd : (s.point p).definition = some d) :
    AgreementKept s (s.becomeNormal p d) := by
  refine .of_onlyPoint (fun q hq => (State.clear_onlyPoint _ p d q hq).trans (s.point_modifyPoint_ne hq _)) fun h => ?_
  refine State.clear_agrees ?_ ?_ ?_ <;> rw [State.point_modifyPoint_self]
  · exact hd
  · exact h.limit hd

theorem State.beginAbnormal_kept {s : State} {p : Point} {d : PointDef} (hd : (s.point p).definition = some d) :
    AgreementKept s (s.beginAbnormal p d) := by
  unfold State.beginAbnormal
  split
  · exact State.becomeAbnormal_kept hd
  · exact .modifyPoint fun h => h.congr rfl rfl rfl rfl

/-- A transition that neither raises nor clears moves the delay and its times alone (02 R27, R28, R31, R33). -/
theorem PointState.delayMoved_frame (d : PointDef) (level : Level) (x : PointState) :
    x.delayMoved d level =
      { x with delay := (x.delayMoved d level).delay, accumulated := (x.delayMoved d level).accumulated,
               restartRaise := (x.delayMoved d level).restartRaise } := by
  unfold PointState.delayMoved
  split
  case h_6 =>
    unfold PointState.pause
    split <;> rfl
  all_goals rfl

theorem AgreementKept.delayMoved (s : State) (p : Point) (d : PointDef) (level : Level) :
    AgreementKept s (s.modifyPoint p (PointState.delayMoved d level)) :=
  .modifyPoint fun h => by
    rw [PointState.delayMoved_frame]
    exact h.congr rfl rfl rfl rfl

theorem State.takeAbnormal_kept {s : State} {p : Point} {d : PointDef} (hd : (s.point p).definition = some d) :
    AgreementKept s (s.takeAbnormal p d) := by
  by_cases h : (s.point p).qualified = .normalQ ∧ (s.point p).delay = .idle
  · obtain ⟨hq, hi⟩ := h
    simp only [State.takeAbnormal, hq, hi]
    exact State.beginAbnormal_kept hd
  · rw [State.takeAbnormal_moves fun hq hi => absurd ⟨hq, hi⟩ h]
    exact .delayMoved s p d _

theorem State.takeNormal_kept {s : State} {p : Point} {d : PointDef} (hd : (s.point p).definition = some d) :
    AgreementKept s (s.takeNormal p d) := by
  by_cases h : (s.point p).qualified = .abnormalQ ∧ (s.point p).delay = .idle ∧ d.offDelay = 0
  · obtain ⟨hq, hi, h0⟩ := h
    simp only [State.takeNormal, hq, hi, h0, if_true]
    exact State.becomeNormal_kept hd
  · rw [State.takeNormal_moves fun hq hi h0 => h ⟨hq, hi, h0⟩]
    exact .delayMoved s p d _

theorem State.qualify_kept {s : State} {p : Point} {d : PointDef} (hd : (s.point p).definition = some d) (level : Level) :
    AgreementKept s (s.qualify p d level) := by
  cases level
  · exact State.takeNormal_kept hd
  · exact State.takeAbnormal_kept hd

/-! ### The definition a due step finds -/

theorem State.filterDue_definition {s : State} {p : Point} {d : PointDef} (h : s.filterDue p = some d) :
    (s.point p).definition = some d := by
  unfold State.filterDue at h
  split at h <;> simp_all

theorem State.onDelayDue_definition {s : State} {p : Point} {d : PointDef} (h : s.onDelayDue p = some d) :
    (s.point p).definition = some d := by
  unfold State.onDelayDue at h
  split at h <;> simp_all

theorem State.offDelayDue_definition {s : State} {p : Point} {d : PointDef} (h : s.offDelayDue p = some d) :
    (s.point p).definition = some d := by
  unfold State.offDelayDue at h
  split at h <;> simp_all

theorem State.accumulationDue_definition {s : State} {p : Point} {d : PointDef} (h : s.accumulationDue p = some d) :
    (s.point p).definition = some d := by
  unfold State.accumulationDue at h
  split at h <;> simp_all

/-! ### Service, definition and RESTORE -/

theorem State.restorePoint_point (s : State) (p : Point) (cause : RestoreCause) (src : Source) :
    (s.restorePoint p cause src).point p = { (s.point p).moved .normal none false with restore := none } := by
  simp [State.restorePoint, State.point_tell, State.point_setPhase, State.appendPoint, PointState.moved]

theorem State.restorePoint_onlyPoint (s : State) (p : Point) (cause : RestoreCause) (src : Source) :
    OnlyPoint s (s.restorePoint p cause src) p := fun q hq => by
  simp [State.restorePoint, State.point_tell, State.point_setPhase, State.appendPoint, State.point_modifyPoint, hq]

/-- A SUPPRESSED point that is NORMAL_Q returns to NORMAL (07 R129, R130). -/
theorem State.restorePoint_kept {s : State} {p : Point} (cause : RestoreCause) (src : Source)
    (hp : (s.point p).phase = .suppressed) (hq : (s.point p).agrees → (s.point p).qualified = .normalQ) :
    AgreementKept s (s.restorePoint p cause src) := by
  refine .of_onlyPoint (s.restorePoint_onlyPoint p cause src) fun h => ?_
  obtain ⟨⟨d, hd, -⟩, -⟩ := h.2 hp
  rw [State.restorePoint_point]
  refine .of_sequencing rfl (Option.isSome_of_eq_some hd) (iff_of_false ?_ (by simp [PointState.moved]))
  change (s.point p).qualified ≠ .abnormalQ
  rw [hq h]
  decide

theorem State.restoreByRequest_kept {s : State} {l : Link} {p : Point} {d : PointDef} (hd : (s.point p).definition = some d)
    (hp : (s.point p).phase = .suppressed) : AgreementKept s (s.restoreByRequest l p d) := by
  unfold State.restoreByRequest
  dsimp only
  split
  case h_1 hq =>
    refine .of_onlyPoint (fun q hne => (State.raise_onlyPoint _ p d q hne).trans (s.restorePoint_onlyPoint p _ _ q hne))
      fun _ => State.raise_agrees ?_ ?_ ?_ <;> rw [State.restorePoint_point]
    · exact hd
    · exact hq
    · exact fun h => nomatch h
  case h_2 hq => exact State.restorePoint_kept _ _ hp fun _ => hq

theorem State.restoreRequest_kept (s : State) (l : Link) (arg : Option Point) : AgreementKept s (s.restoreRequest l arg).1 := by
  unfold State.restoreRequest
  split
  · exact .rfl' s
  · split
    · exact .rfl' s
    · rename_i hd
      split
      case isTrue hp => exact State.restoreByRequest_kept hd hp
      case isFalse => exact .rfl' s

theorem State.definePointRequest_kept (s : State) (l : Link) (arg : Option (Point × PointDef)) :
    AgreementKept s (s.definePointRequest l arg).1 := by
  unfold State.definePointRequest
  split
  · exact .rfl' s
  · rename_i p d
    repeat' split
    · exact .rfl' s
    · refine .of_onlyPoint (p := p) (fun q hq => ?_) fun _ => .of_unserved (.inr ?_)
      · simp [State.accepted, State.putPoint, State.point_tell, State.point_modifyPoint, State.appendPoint, hq]
      · simp [State.accepted, State.putPoint, State.point_tell, State.appendPoint, PointState.define]
    · exact .rfl' s

theorem State.undefinePointRequest_kept (s : State) (l : Link) (arg : Option Point) :
    AgreementKept s (s.undefinePointRequest l arg).1 := by
  unfold State.undefinePointRequest
  split
  · exact .rfl' s
  · rename_i p
    repeat' split
    · exact .rfl' s
    · refine .of_onlyPoint (p := p) (fun q hq => ?_) fun _ => .of_unserved (.inl ?_)
      · simp [State.accepted, State.removePoint, State.point_tell, State.point_modifyPoint, hq]
      · simp [State.accepted, State.removePoint, State.point_tell, PointState.undefine]
    · exact .rfl' s

theorem State.takeOut_kept (s : State) (l : Link) (p : Point) : AgreementKept s (s.takeOut l p) := by
  rw [State.takeOut_eq]
  refine .of_onlyPoint (p := p) (fun q hq => ?_) fun _ => .of_unserved (.inr ?_)
  · rw [State.move_onlyPoint _ p _ _ _ _ _ q hq]
    simp [State.quieted, State.point_modifyPoint, hq]
  · obtain ⟨mark, h⟩ := (s.quieted p).move_point p .outOfService none (.serviceOut .outOfService) (linkSource l) id
    rw [h]
    rfl

theorem State.serviceOutRequest_kept (s : State) (l : Link) (arg : Option Point) :
    AgreementKept s (s.serviceOutRequest l arg).1 := by
  unfold State.serviceOutRequest
  split
  · exact .rfl' s
  · repeat' split
    · exact .rfl' s
    · exact .rfl' s
    · exact s.takeOut_kept l _

/-- A defined point enters service NORMAL_Q in NORMAL (01 R16). -/
theorem State.entered_kept {s : State} (l : Link) {p : Point} {d : PointDef} (hd : (s.point p).definition = some d) :
    AgreementKept s (s.entered l p) ∧ ((s.entered l p).point p).definition = some d := by
  have hpoint : (s.entered l p).point p = (s.point p).entered := by
    simp [State.entered, State.point_tell, State.point_setPhase, State.appendPoint, PointState.entered, PointState.moved]
  refine ⟨.of_onlyPoint (p := p) (fun q hq => ?_) fun _ => ?_, by rw [hpoint]; exact hd⟩
  · simp [State.entered, State.point_tell, State.point_setPhase, State.point_modifyPoint, State.appendPoint, hq]
  · rw [hpoint]
    exact PointState.moved_agrees none false rfl (Option.isSome_of_eq_some hd)
      (iff_of_false (fun h => nomatch h) (by decide))

theorem State.putIn_kept {s : State} (l : Link) {p : Point} {d : PointDef} (hd : (s.point p).definition = some d) :
    AgreementKept s (s.putIn l p d) := by
  obtain ⟨hkept, hdef⟩ := State.entered_kept l hd
  rw [State.putIn_eq]
  split
  · exact hkept
  · exact hkept.trans (State.beginAbnormal_kept hdef)

theorem State.serviceInRequest_kept (s : State) (l : Link) (arg : Option Point) :
    AgreementKept s (s.serviceInRequest l arg).1 := by
  unfold State.serviceInRequest
  split
  · exact .rfl' s
  · split
    · exact .rfl' s
    · rename_i hd
      repeat' split
      · exact .rfl' s
      · exact State.putIn_kept l hd
      · exact .rfl' s

/-! ### Restarts and time -/

/-- A warm restart leaves a point in service NORMAL_Q in NORMAL (02 R42, 03 R69). -/
theorem PointState.agrees.warm {x : PointState} (h : x.agrees) : x.warm.agrees := by
  have hphase : x.warm.phase = x.phase.warm := rfl
  by_cases hp : x.phase ∈ [.undefined, .outOfService]
  · refine .of_unserved ?_
    rw [hphase, Phase.warm_kept hp]
    simpa using hp
  · obtain ⟨hn, hserved⟩ := Phase.warm_normal hp
    obtain ⟨d, hd⟩ : ∃ d, x.definition = some d := by
      rcases (Bool.or_eq_true _ _).mp hserved with hs | hs
      · exact Option.isSome_iff_exists.mp (h.isSome hs)
      · obtain ⟨⟨d, hd, -⟩, -⟩ := h.2 (of_decide_eq_true hs)
        exact ⟨d, hd⟩
    obtain ⟨hq, -⟩ := PointState.warm_requalifies hd hp
    refine .of_sequencing ?_ ?_ (iff_of_false ?_ ?_)
    · rw [hphase, hn]; rfl
    · rw [x.warm_definition, hd]; rfl
    · rw [hq]; decide
    · rw [hphase, hn]; decide

theorem State.warmRestart_kept (s : State) : AgreementKept s s.warmRestart := fun p h => by
  rw [State.warmRestart_eq, State.point_congr (State.appendBare_points _ _ _), State.warmBlocks_point]
  exact h.warm

theorem State.cold_kept (s : State) (source : ResetCause) (rate : LineRate) : AgreementKept s (s.cold source rate) :=
  fun p _ => .of_unserved (.inl (by rw [State.cold_point]; rfl))

theorem State.tick_kept (s : State) : AgreementKept s s.tick := fun p h => by
  have hpoint : s.tick.point p = (s.point p).tick := by
    rw [State.tick_eq]
    exact s.tickTimers_point p
  rw [hpoint, PointState.tick_eq]
  exact h.congr rfl rfl rfl (by simp)

theorem State.idle_kept (s : State) : AgreementKept s s.idle := by
  unfold State.idle
  split
  · exact .rfl' s
  · split
    · exact s.tick_kept
    · exact .of_points rfl
    · exact .of_points rfl

/-! ### Every command -/

/-- The change of a line moves the filter alone (02 R22, R23). -/
theorem execInputLineChange_kept {p : Point} {active : Bool} {s t : State} (h : execInputLineChange p active s = .next t) :
    AgreementKept s t := by
  cases h
  have hfollow (u : State) (d : PointDef) : AgreementKept u (u.modifyPoint p (PointState.follow d)) :=
    .modifyPoint fun h => by
      unfold PointState.follow
      split <;> exact h.congr rfl rfl rfl rfl
  have hline : AgreementKept s (s.modifyPoint p fun x => { x with line := active }) :=
    .modifyPoint fun h => h.congr rfl rfl rfl rfl
  dsimp only
  repeat' split
  · exact .rfl' s
  · exact hline
  · exact hline.trans (hfollow _ _)
  · exact hline

theorem execFilteredTransition_kept {p : Point} {s t : State} (h : execFilteredTransition p s = .next t) :
    AgreementKept s t := by
  cases h
  refine .whenRunning ?_
  split
  · exact .rfl' s
  · rename_i d hdue
    have hd := State.filterDue_definition hdue
    have hfilter : AgreementKept s (s.modifyPoint p fun x =>
        { x with filtered := (s.point p).lineLevel d, filterRun := none }) :=
      .modifyPoint fun h => h.congr rfl rfl rfl rfl
    dsimp only
    split
    · exact hfilter
    · exact (hfilter.trans (State.qualify_kept (by simpa using hd) _)).finish

theorem execRealertExpiry_kept {p : Point} {s t : State} (h : execRealertExpiry p s = .next t) : AgreementKept s t := by
  cases h
  refine .whenRunning ?_
  split
  case isTrue hdue =>
    have hp : (s.point p).phase = .acked := by
      simp only [State.realertDue, Bool.and_eq_true, decide_eq_true_eq] at hdue
      exact hdue.1
    exact (AgreementKept.move rfl (by rw [hp]; rfl) fun h => iff_of_true (h.abnormal (.inr hp)) (.inl rfl)).finish
  case isFalse => exact .rfl' s

theorem execRestoreTimerExpiry_kept {p : Point} {s t : State} (h : execRestoreTimerExpiry p s = .next t) :
    AgreementKept s t := by
  cases h
  refine .whenRunning ?_
  split
  case isTrue hdue =>
    obtain ⟨hp, hr⟩ : (s.point p).phase = .suppressed ∧ (s.point p).restore = some 0 := by
      simpa [State.restoreDue] using hdue
    exact (State.restorePoint_kept _ _ hp fun h => (h.2 hp).2 (by rw [hr]; rfl)).finish
  case isFalse => exact .rfl' s

/-- The end of a frame restarts the part, or touches its chains alone (10 R176, 11 R186). -/
theorem execTransmitEnd_kept {l : Link} {s t : State} (h : execTransmitEnd l s = .next t) : AgreementKept s t := by
  cases h
  refine .whenRunning ?_
  dsimp only
  split
  · exact .rfl' s
  · refine .trans ?_ (.of_points (State.startTx_points _ l))
    split
    · exact .trans (.of_points (s.freeLine_points l)) (State.warmRestart_kept _)
    · exact .of_points (s.freeLine_points l)

theorem State.ackWalk_kept (s : State) (src : Source) (a : Action) (p : Point) : AgreementKept s (s.ackWalk src a p) := by
  unfold State.ackWalk
  split
  · exact (s.ackPoint_kept p src).advanceAction src _ _
  · exact (AgreementKept.rfl' s).advanceAction src _ _

theorem State.resetMember_kept (s : State) (src : Source) (a : Action) (g : Group) (p : Point) :
    AgreementKept s (s.resetMember src a g p) := by
  unfold State.resetMember
  split
  · exact (s.resetPoint_kept p src).advanceAction src _ _
  · exact (AgreementKept.rfl' s).advanceAction src _ _

theorem State.clearingStage_kept (s : State) (src : Source) (a : Action) (g : Group) :
    AgreementKept s (s.clearingStage src a g) := by
  unfold State.clearingStage
  split
  · exact (s.clearFirstOut_kept g src).advanceAction src _ _
  · exact (AgreementKept.rfl' s).advanceAction src _ _

/-- What any command does to the agreement of the points. -/
theorem exec_agreementKept {c : Instr} {s t : State} (h : exec c s = .next t) : AgreementKept s t := by
  cases c with
  | coldReset cause rate1 rate0 =>
    rw [exec_coldReset] at h
    cases h
    exact .trans (s.cold_kept (s.coldSource cause) (strapRate rate1 rate0)) (.of_points rfl)
  | resetAsserted cause => cases h; exact .of_points rfl
  | inputLineChange p active => exact execInputLineChange_kept h
  | filteredTransition p => exact execFilteredTransition_kept h
  | onDelayExpiry p =>
    cases h
    refine .whenRunning ?_
    split
    · exact (State.becomeAbnormal_kept (State.onDelayDue_definition ‹_›)).finish
    · exact .rfl' s
  | offDelayExpiry p =>
    cases h
    refine .whenRunning ?_
    split
    · exact (State.becomeNormal_kept (State.offDelayDue_definition ‹_›)).finish
    · exact .rfl' s
  | accumulationExpiry p =>
    cases h
    refine .whenRunning ?_
    split
    · exact (State.becomeAbnormal_kept (State.accumulationDue_definition ‹_›)).finish
    · exact .rfl' s
  | restartRaise p =>
    cases h
    refine .whenRunning ?_
    split
    · split
      · exact (State.becomeAbnormal_kept ‹_›).finish
      · exact .rfl' s
    · exact .rfl' s
  | forgetTimerExpiry p | chatterWindowExpiry p =>
    cases h
    refine .whenRunning ?_
    split
    · exact .modifyPoint fun h => h.congr rfl rfl rfl rfl
    · exact .rfl' s
  | realertExpiry p => exact execRealertExpiry_kept h
  | restoreTimerExpiry p => exact execRestoreTimerExpiry_kept h
  | ackWalkEvent src =>
    cases h
    refine .whenRunning ?_
    split
    · exact .rfl' s
    · split
      case h_1 => exact (s.ackWalk_kept src _ _).finish
      all_goals exact .rfl' s
  | resetGroupExamine src =>
    cases h
    refine .whenRunning (.of_points ?_)
    repeat' split
    all_goals simp
  | resetMemberEvent src =>
    cases h
    refine .whenRunning ?_
    split
    · exact .rfl' s
    · split
      case h_1 => exact (s.resetMember_kept src _ _ _).finish
      all_goals exact .rfl' s
  | firstOutClearing src =>
    cases h
    refine .whenRunning ?_
    split
    · exact .rfl' s
    · split
      case h_1 => exact (s.clearingStage_kept src _ _).finish
      all_goals exact .rfl' s
  | panelLineChange line active =>
    cases h
    refine .of_points ?_
    dsimp only
    split <;> rfl
  | patternCycleWrap | dayRollover | panelFilteredTransition line | panelPressBegin | lampTestHostExpiry | leaseExpiry
  | retransmissionExpiry l | interByteTimeout l | confirm l body | unknownKindRequest l =>
    cases h
    refine .whenRunning (.of_points ?_)
    repeat' split
    all_goals simp
  | byteArrival l data stopGood =>
    cases h
    refine .whenRunning (.of_points ?_)
    dsimp only
    repeat' split
    all_goals simp
  | transmitEnd l => exact execTransmitEnd_kept h
  | hello l => cases h; exact .serve_points fun _ u => u.openSession_points l
  | bye l => cases h; exact .serve_points fun _ u => u.closeSession_points l _
  | claim l => cases h; exact .serve_points fun _ u => u.claimRequest_points l
  | release l => cases h; exact .serve_points fun _ u => u.releaseRequest_points l
  | restart l => cases h; exact .serve_points fun _ u => u.restartRequest_points l
  | defineGroup l => cases h; exact .serve_points fun _ u => u.defineGroupRequest_points l _
  | undefineGroup l => cases h; exact .serve_points fun _ u => u.undefineGroupRequest_points l _
  | definePoint l => cases h; exact .serve fun _ u => u.definePointRequest_kept l _
  | undefinePoint l => cases h; exact .serve fun _ u => u.undefinePointRequest_kept l _
  | setServiceOut l => cases h; exact .serve fun _ u => u.serviceOutRequest_kept l _
  | setServiceIn l => cases h; exact .serve fun _ u => u.serviceInRequest_kept l _
  | restore l => cases h; exact .serve fun _ u => u.restoreRequest_kept l _
  | setTime l => cases h; exact .serve_setTime s l fun q => timeArg q.body
  | ack l => cases h; exact .serve_points fun _ u => u.operatorRequest_points _ l _ _ _
  | reset l => cases h; exact .serve_points fun _ u => u.operatorRequest_points _ l _ _ _
  | silence l => cases h; exact .serve_points fun _ u => u.silence_points _
  | lampTest l => cases h; exact .serve_points fun _ u => u.lampTestRequest_points l _
  | subscribe l => cases h; exact .serve_points fun _ u => u.subscribeRequest_points l _
  | unsubscribe l => cases h; exact .serve_points fun _ u => u.unsubscribeRequest_points l
  | readStatus l => cases h; exact .serve_points fun _ _ => rfl
  | readPoint l | readGroup l | readList l =>
    cases h
    exact .serve_points fun _ _ => by split <;> rfl
  | readJournal l =>
    cases h
    refine .serve_points fun _ u => ?_
    generalize inRange _ _ _ = most, u.journalStart _ = start
    cases most <;> cases start <;> rfl

/-- Settles O6: a command executed with the queue's rest keeps agreement, and so does what the part does by itself. -/
theorem phaseAgreesWithCondition : Obligations.PhaseAgreesWithCondition := by
  intro s t hs h
  have hkept : AgreementKept s t := by
    unfold step at h
    split at h
    · rename_i i rest _
      exact .trans (t := { s with pending := rest }) (.of_points rfl) (exec_agreementKept h)
    · cases h
      exact s.idle_kept
  exact fun p => hkept p (hs p)

end Sys2Proof.Machine
end

section
/-! SUPPORT. The alarm sequences after an episode has begun (03): the re-raise, CLEAR in ALERT and in ACKED, the re-alert. -/

namespace Sys2Proof.Machine

/-! ### The group of a defined point -/

theorem State.groupOf_of_definition {s : State} {p : Point} {d : PointDef} (hd : (s.point p).definition = some d) :
    s.groupOf p = some d.group := by
  simp [State.groupOf, hd]

theorem State.groupDefOf_of_definitions {s : State} {p : Point} {d : PointDef} {g : GroupDef}
    (hd : (s.point p).definition = some d) (hg : (s.group d.group).definition = some g) : s.groupDefOf p = some g := by
  simp [State.groupDefOf, State.groupOf_of_definition hd, hg]

theorem State.audible_of_definitions {s : State} {p : Point} {d : PointDef} {g : GroupDef}
    (hd : (s.point p).definition = some d) (hg : (s.group d.group).definition = some g) : s.audible p = g.audible := by
  simp [State.audible, State.groupDefOf_of_definitions hd hg]

theorem State.sequenceOf_of_definitions {s : State} {p : Point} {d : PointDef} {g : GroupDef}
    (hd : (s.point p).definition = some d) (hg : (s.group d.group).definition = some g) : s.sequenceOf p = g.sequence := by
  simp [State.sequenceOf, State.groupDefOf_of_definitions hd hg]

theorem SameDefinitions.sequenceOf {s t : State} (h : SameDefinitions s t) (p : Point) :
    t.sequenceOf p = s.sequenceOf p := by
  simp [State.sequenceOf, h.groupDefOf]

/-! ### A phase change and the rest of its event -/

/-- A phase change touches neither the operator unit nor the session unit, and of the chains what its records do. -/
theorem State.move_frame (s : State) (p : Point) (ph : Phase) (timer : Option Nat) (kind : RecordKind) (src : Source)
    (upd : Entry → Entry) :
    let v := s.move p ph timer kind src upd
    v = { s with points := v.points, groups := v.groups, alarmList := v.alarmList, journal := v.journal,
                 nextSeq := v.nextSeq, output := v.output, chainA := v.chainA, chainB := v.chainB } := by
  cases h : ph.hasEntry
  · exact (s.move_closes p ph timer kind src upd h).frame
  · have hf := (s.move_mirrors p ph timer kind src upd h).frame
    exact hf.trans (by rw [hf])

theorem State.move_undisturbed (s : State) (p : Point) (ph : Phase) (timer : Option Nat) (kind : RecordKind) (src : Source)
    (upd : Entry → Entry) (l : Link) : Undisturbed (s.chain l) ((s.move p ph timer kind src upd).chain l) := by
  cases h : ph.hasEntry
  · exact (s.move_closes p ph timer kind src upd h).chains l
  · exact (s.move_mirrors p ph timer kind src upd h).chains l

/-- From `v` to `t` an event only goes on in the operator unit and the chains. -/
def OnlyUnits (v t : State) : Prop := t = { v with operator := t.operator, chainA := t.chainA, chainB := t.chainB }

theorem State.finish_onlyUnits (v : State) : OnlyUnits v v.finish := State.eq_of_fields (by simp)

theorem OnlyUnits.point {v t : State} (h : OnlyUnits v t) (p : Point) : t.point p = v.point p := by
  rw [OnlyUnits] at h
  rw [h]
  rfl

theorem OnlyUnits.group {v t : State} (h : OnlyUnits v t) (g : Group) : t.group g = v.group g := by
  rw [OnlyUnits] at h
  rw [h]
  rfl

theorem OnlyUnits.grows {v t s : State} {items : List Item} (h : OnlyUnits v t) (hg : Grows s v items) : Grows s t items := by
  rw [OnlyUnits] at h
  rw [h]
  exact hg

theorem OnlyUnits.latched {v t s : State} {a b : Bool} (h : OnlyUnits v t) (hl : Latched s v a b) : Latched s t a b := by
  rw [OnlyUnits] at h
  exact hl.of_output (by rw [h]) (by rw [h]) (by rw [h])

/-- An event that changes point `p` by `f`, mirrors its new phase in the entry and goes on (03 R46, 04 R74). -/
theorem Mirrors.goesOn {s v t : State} {p : Point} {ph : Phase} {timer : Option Nat} {k : RecordKind} {src : Source}
    {upd : Entry → Entry} {f : PointState → PointState} (hf : (f (s.point p)).definition = (s.point p).definition)
    (hj : s.journal.length ≤ Config.journalCapacity)
    (h : Mirrors (s.modifyPoint p f) v p ph timer (k, src, some p, (s.modifyPoint p f).groupOf p) upd) (ht : OnlyUnits v t) :
    t.point p = (f (s.point p)).moved ph timer (f (s.point p)).shownMark ∧ t.groups = s.groups ∧
      t.alarmList = mirrored s.alarmList p (fun e => upd { e with phase := ph }) ∧
      Grows s t [(k, src, some p, s.groupOf p)] ∧
      Latched s t (s.audible p && decide (ph = .alert)) (s.audible p && decide (ph = .ringback)) := by
  obtain ⟨hpoint, -, hlist, hgrows, hlatch, -, hframe⟩ := h.after hf
  refine ⟨(ht.point p).trans hpoint, ?_, ?_, ht.grows (hgrows hj), ht.latched hlatch⟩
  · rw [ht, hframe]
  · rw [ht]
    exact hlist

/-- An event that changes point `p` by `f`, closes its entry and goes on (03 R46, 04 R76, R80). -/
theorem Closes.goesOn {s v t : State} {p : Point} {ph : Phase} {timer : Option Nat} {k : RecordKind} {src : Source}
    {f : PointState → PointState} {e : Entry} (hf : (f (s.point p)).definition = (s.point p).definition)
    (hj : s.journal.length ≤ Config.journalCapacity) (he : s.entry? p = some e)
    (h : Closes (s.modifyPoint p f) v p ph timer (k, src, some p, (s.modifyPoint p f).groupOf p) src) (ht : OnlyUnits v t) :
    t.point p = (f (s.point p)).moved ph timer false ∧ t.alarmList = closed s.alarmList p ∧ OnlyGroup s t e.group ∧
      t.group e.group = { s.group e.group with firstOut := if e.firstOut then none else (s.group e.group).firstOut } ∧
      Grows s t ((k, src, some p, s.groupOf p) :: goneItems e src) ∧
      Latched s t (s.audible p && decide (ph = .alert)) (s.audible p && decide (ph = .ringback)) := by
  obtain ⟨hpoint, -, hlist, -, hentry, hlatch, -, -⟩ := h.after hf
  obtain ⟨honly, hgroup, hgrows⟩ := hentry e he
  refine ⟨(ht.point p).trans hpoint, ?_, fun k hk => (ht.group k).trans (honly k hk), (ht.group _).trans hgroup,
    ht.grows (hgrows hj), ht.latched hlatch⟩
  rw [ht]
  exact hlist

/-- What becomes of a cleared and acknowledged point by its group's sequence type: NORMAL with the entry closed, WAIT_RESET, or
RINGBACK (03 R52, R54; 04 R76, R80; 06 R118). -/
def Settles (s t : State) (p : Point) (d : PointDef) (g : GroupDef) (e : Entry) (y : PointState) (kind : Phase → RecordKind)
    (src : Source) (upd : Phase → Entry → Entry) : Prop :=
  (g.sequence = .auto →
    t.point p = y.moved .normal none false ∧ t.alarmList = closed s.alarmList p ∧ OnlyGroup s t e.group ∧
    t.group e.group = { s.group e.group with firstOut := if e.firstOut then none else (s.group e.group).firstOut } ∧
    Grows s t ((kind .normal, src, some p, some d.group) :: goneItems e src) ∧ Latched s t false false) ∧
  (g.sequence = .manual →
    t.point p = y.moved .waitReset none y.shownMark ∧ t.groups = s.groups ∧
    t.alarmList = mirrored s.alarmList p (upd .waitReset) ∧
    Grows s t [(kind .waitReset, src, some p, some d.group)] ∧ Latched s t false false) ∧
  (g.sequence = .ringback →
    t.point p = y.moved .ringback none y.shownMark ∧ t.groups = s.groups ∧
    t.alarmList = mirrored s.alarmList p (upd .ringback) ∧
    Grows s t [(kind .ringback, src, some p, some d.group)] ∧ Latched s t false g.audible)

/-- A phase change to where the sequence type settles the point, after a change of the same point within the event. -/
theorem State.move_settles {s t : State} {p : Point} {d : PointDef} {g : GroupDef} {e : Entry} {f : PointState → PointState}
    {kind : Phase → RecordKind} {src : Source} {upd : Entry → Entry} (hd : (s.point p).definition = some d)
    (hg : (s.group d.group).definition = some g) (he : s.entry? p = some e)
    (hj : s.journal.length ≤ Config.journalCapacity) (hf : (f (s.point p)).definition = (s.point p).definition)
    (ht : OnlyUnits ((s.modifyPoint p f).move p g.sequence.settled none (kind g.sequence.settled) src upd) t) :
    Settles s t p d g e (f (s.point p)) kind src fun ph e => upd { e with phase := ph } := by
  have hgroup := State.groupOf_of_definition hd
  have haud := State.audible_of_definitions hd hg
  have mirrors {ph : Phase} (hph : ph.hasEntry = true)
      (ht : OnlyUnits ((s.modifyPoint p f).move p ph none (kind ph) src upd) t) :=
    (State.move_mirrors _ p ph none (kind ph) src upd hph).goesOn hf hj ht
  rw [hgroup, haud] at mirrors
  refine ⟨fun h => ?_, fun h => ?_, fun h => ?_⟩ <;> rw [h] at ht
  · have hc := (State.move_closes _ p .normal none (kind .normal) src upd rfl).goesOn hf hj he ht
    rw [hgroup, haud] at hc
    simpa using hc
  · simpa using mirrors (ph := .waitReset) rfl ht
  · simpa using mirrors (ph := .ringback) rfl ht

/-! ### The re-raise (03 R50, 04 R74) -/

/-- A RAISE of a point that is not SUPPRESSED, below its chatter limit, is counted and passed on (02 R35, 07 R125). -/
theorem State.raise_passesOn {s : State} {p : Point} {d : PointDef} (hp : (s.point p).phase ≠ .suppressed)
    (hc : d.chatterLimit = 0 ∨ (s.point p).countedRaise < d.chatterLimit) :
    s.raise p d = (s.modifyPoint p (PointState.counted d)).engineRaise p d := by
  by_cases h0 : d.chatterLimit = 0
  · have hid : PointState.counted d = fun x => x := funext fun x => by rw [PointState.counted, if_pos h0]
    rw [hid, State.modifyPoint_id, State.raise, if_pos h0]
  · have hcount : PointState.counted d = PointState.count d := funext fun x => by rw [PointState.counted, if_neg h0]
    rw [hcount, State.raise, if_neg h0, State.chatterRaise, if_neg hp, if_pos (hc.resolve_left h0)]

theorem State.engineRaise_reraises {s : State} {p : Point} (d : PointDef)
    (hp : (s.point p).phase ∈ [.clearedUnacked, .waitReset, .ringback]) : s.engineRaise p d = s.reraise p := by
  simp only [List.mem_cons, List.not_mem_nil, or_false] at hp
  rcases hp with hp | hp | hp <;> simp [State.engineRaise, hp]

/-- A re-raise is a phase change within the episode, with the count and the mark of the entry in its record. -/
theorem State.reraise_mirrors {s : State} {p : Point} {e : Entry} (he : s.entry? p = some e) :
    Mirrors s (s.reraise p) p .alert none
      (.raised .alert (min (e.raiseCount + 1) 255) e.firstOut, .part, some p, s.groupOf p) Entry.countRaise := by
  simp only [State.reraise, he]
  exact s.move_mirrors p .alert none _ .part Entry.countRaise rfl

/-- The command that raises a point within its episode, below its chatter limit (02 R35, 03 R50, 07 R125). -/
theorem RaisesBy.exec_reraises {s : State} {p : Point} {d : PointDef} {c : Instr} (hr : s.inReset = false)
    (hd : (s.point p).definition = some d) (hp : (s.point p).phase ∈ [.clearedUnacked, .waitReset, .ringback])
    (h : RaisesBy s p d c) (hc : d.chatterLimit = 0 ∨ (s.point p).countedRaise < d.chatterLimit) :
    exec c s = .next (((s.modifyPoint p fun x => (x.raised p c).counted d).reraise p).finish) := by
  have hout : (s.point p).phase ≠ .outOfService := fun h => by simp [h] at hp
  have hsup : (s.point p).phase ≠ .suppressed := fun h => by simp [h] at hp
  rw [h.exec_eq hr hd hout, State.raise_passesOn, State.modifyPoint_modifyPoint, State.engineRaise_reraises]
  · simpa [PointState.counted_eq, PointState.raised] using hp
  · simpa [PointState.raised] using hsup
  · simpa [PointState.raised, PointState.countedRaise] using hc

/-- Settles O16: the RAISE counts the point and re-raises it, whichever of the four ways it comes about. -/
theorem reRaiseKeepsTheEntry : Obligations.ReRaiseKeepsTheEntry := by
  intro c p s d g e hr hj hd hg hraise hp he hc
  have hm := (State.reraise_mirrors (s := s.modifyPoint p fun x => (x.raised p c).counted d) he).finish
  obtain ⟨hpoint, hothers, hlist, hgrows, hlatch, hchains, hframe⟩ := hm.after (by rw [PointState.counted_eq]; rfl)
  rw [State.groupOf_of_definition hd] at hgrows
  rw [State.audible_of_definitions hd hg] at hlatch
  refine ⟨_, hraise.exec_reraises hr hd hp hc, hothers, hchains, hframe, ?_, hlist, hgrows hj, by simpa using hlatch⟩
  rw [hpoint, PointState.counted_eq]
  rfl

/-! ### CLEAR in ALERT and in ACKED (03 R51, R52) -/

/-- A CLEAR of a point that is not SUPPRESSED is passed on to the sequence engine (02 R35). -/
theorem State.clear_passesOn {s : State} {p : Point} (d : PointDef) (hp : (s.point p).phase ≠ .suppressed) :
    s.clear p d = s.engineClear p := by
  simp [State.clear, State.chatterClear, hp]

/-- The command that clears a point in an episode hands CLEAR on to the sequence engine (02 R29, R35). -/
theorem ClearsBy.exec_engine {s : State} {p : Point} {d : PointDef} {c : Instr} (hr : s.inReset = false)
    (hd : (s.point p).definition = some d) (hp : (s.point p).phase = .alert ∨ (s.point p).phase = .acked)
    (h : ClearsBy s p d c) :
    exec c s = .next (((s.modifyPoint p fun x => x.lowered p c).engineClear p).finish) := by
  have hout : (s.point p).phase ≠ .outOfService := by rcases hp with hp | hp <;> rw [hp] <;> decide
  have hsup : (s.point p).phase ≠ .suppressed := by rcases hp with hp | hp <;> rw [hp] <;> decide
  rw [h.exec_eq hr hd hout, State.clear_passesOn]
  simpa [PointState.lowered] using hsup

theorem State.engineClear_alert {s : State} {p : Point} (hp : (s.point p).phase = .alert) :
    s.engineClear p = s.move p .clearedUnacked none (.cleared .clearedUnacked) .part id := by
  simp [State.engineClear, hp]

theorem State.engineClear_acked {s : State} {p : Point} (hp : (s.point p).phase = .acked) :
    s.engineClear p = s.move p (s.sequenceOf p).settled none (.cleared (s.sequenceOf p).settled) .part id := by
  simp [State.engineClear, hp]

/-- Settles O19: the CLEAR is a phase change within the episode, of a group of any sequence type. -/
theorem clearOfAlertAwaitsAcknowledgement : Obligations.ClearOfAlertAwaitsAcknowledgement := by
  intro c p s d hr hj hd hclear hp
  have hexec := hclear.exec_engine hr hd (.inl hp)
  rw [State.engineClear_alert (by simpa [PointState.lowered] using hp)] at hexec
  have hm := (State.move_mirrors (s.modifyPoint p fun x => x.lowered p c) p .clearedUnacked none
    (.cleared .clearedUnacked) .part id rfl).finish
  obtain ⟨hpoint, hothers, hlist, hgrows, hlatch, hchains, hframe⟩ := hm.after rfl
  rw [State.groupOf_of_definition hd] at hgrows
  exact ⟨_, hexec, hothers, hchains, hframe, hpoint, hlist, hgrows hj, by simpa using hlatch⟩

/-- Settles O20: the CLEAR is a phase change to where the group's sequence type settles the point. -/
theorem clearOfAckedFollowsTheSequence : Obligations.ClearOfAckedFollowsTheSequence := by
  intro c p s d g e hr hj hd hg hclear hp he
  have hexec := hclear.exec_engine hr hd (.inr hp)
  have hdefs := SameDefinitions.modifyPoint s p (fun x => x.lowered p c) rfl
  rw [State.engineClear_acked (by simpa [PointState.lowered] using hp), hdefs.sequenceOf,
    State.sequenceOf_of_definitions hd hg] at hexec
  refine ⟨_, hexec, fun q hq => ?_, fun l => ?_, ?_, State.move_settles hd hg he hj rfl (State.finish_onlyUnits _)⟩
  · rw [State.finish_point, State.move_onlyPoint _ p _ _ _ _ _ q hq, State.point_modifyPoint_ne s hq]
  · rw [← s.modifyPoint_chain p fun x => x.lowered p c]
    exact (State.move_undisturbed _ p _ _ _ _ _ l).trans (State.finish_undisturbed _ l)
  · rw [State.finish_frame, State.move_frame]
    rfl

/-! ### The re-alert (03 R59) -/

theorem exec_realertExpiry {s : State} {p : Point} (hr : s.inReset = false) (hp : (s.point p).phase = .acked)
    (ht : (s.point p).realert = some 0) :
    exec (.realertExpiry p) s = .next (s.move p .alert none (.realert .alert) .part id).finish := by
  simp [exec, execRealertExpiry, State.whenRunning, hr, State.realertDue, hp, ht]

/-- Settles O21: the expiry is a phase change within the episode. -/
theorem realertReturnsToAlert : Obligations.RealertReturnsToAlert := by
  intro p s hr hj hp ht
  have hm := (s.move_mirrors p .alert none (.realert .alert) .part id rfl).finish
  exact ⟨_, exec_realertExpiry hr hp ht, hm.others, hm.chains, hm.frame, hm.point, hm.list, hm.journal hj,
    by simpa using hm.latches⟩

end Sys2Proof.Machine
end

section
/-! SUPPORT. The walk of an ACK (05 R95, R96): a point it acknowledges, a point it passes over, and its end. -/

namespace Sys2Proof.Machine

/-! ### The next position and the check -/

theorem afterPoint_eq (scope : Scope) (p : Point) : afterPoint scope p = ackNext scope p := by
  have hnext : (if h : p.val + 1 < 48 then some (WalkPos.ackAt ⟨p.val + 1, h⟩) else none) = (nextPoint p).map .ackAt := by
    unfold nextPoint asPoint
    split <;> rfl
  cases scope with
  | point _ => rfl
  | group _ => exact hnext
  | all => exact hnext

/-- A walk has nowhere to go after the one point of scope point, or after point 47 (05 R95). -/
theorem afterPoint_last {scope : Scope} {p : Point} (h : (∃ q, scope = .point q) ∨ p = 47) : afterPoint scope p = none := by
  rcases h with ⟨q, rfl⟩ | rfl
  · rfl
  · cases scope <;> rfl

/-- At a defined point of the scope the check is the permission of its group (05 R93, R95). -/
theorem State.ackAllowed_iff {s : State} {src : Source} {scope : Scope} {p : Point} {d : PointDef}
    (hd : (s.point p).definition = some d) (hs : scope = .all ∨ scope = .group d.group ∨ scope = .point p) :
    s.ackAllowed src scope p = true ↔ Permitted s d.group src := by
  rw [Permitted.iff_groupPermits]
  rcases hs with rfl | rfl | rfl <;> simp [State.ackAllowed, hd]

/-- The check fails at an undefined point, and at a point outside the group of the scope (05 R95). -/
theorem State.ackAllowed_outside {s : State} {scope : Scope} {p : Point} (src : Source)
    (h : (s.point p).definition = none ∨ ∃ g, scope = .group g ∧ s.groupOf p ≠ some g) :
    s.ackAllowed src scope p = false := by
  cases hd : (s.point p).definition with
  | none => simp [State.ackAllowed, hd]
  | some d =>
    obtain ⟨g, rfl, hg⟩ := h.resolve_left (by simp [hd])
    rw [State.groupOf_of_definition hd] at hg
    have hne : d.group ≠ g := fun h => hg (congrArg some h)
    simp [State.ackAllowed, hd, hne]

/-! ### One event of the walk -/

theorem exec_ackWalkEvent {s : State} {src : Source} {a : Action} {p : Point} (hr : s.inReset = false)
    (ha : s.operator.slot src = some a) (hp : a.pos = .ackAt p) :
    exec (.ackWalkEvent src) s = .next (s.ackWalk src a p).finish := by
  simp [exec, execAckWalkEvent, State.whenRunning, hr, ha, hp]

theorem State.ackPoint_alert {s : State} {p : Point} (src : Source) (h : (s.point p).phase = .alert) :
    s.ackPoint p src =
      (s.move p .acked (s.realertStart p) (.acked .acked) src (Entry.acknowledge src s.time), true) := by
  simp [State.ackPoint, h]

theorem State.ackPoint_cleared {s : State} {p : Point} (src : Source) (h : (s.point p).phase = .clearedUnacked) :
    s.ackPoint p src =
      (s.move p (s.sequenceOf p).settled none (.acked (s.sequenceOf p).settled) src (Entry.acknowledge src s.time), true) := by
  simp [State.ackPoint, h]

/-- In the other phases a per-point ACK changes nothing (03 R55). -/
theorem State.ackPoint_idle {s : State} {p : Point} (src : Source) (ha : (s.point p).phase ≠ .alert)
    (hc : (s.point p).phase ≠ .clearedUnacked) : s.ackPoint p src = (s, false) := by
  unfold State.ackPoint
  split
  · exact absurd ‹_› ha
  · exact absurd ‹_› hc
  all_goals rfl

/-- A point that fails the check, or on which ACK has no effect, is passed over (05 R95). -/
theorem State.ackWalk_passes {s : State} {src : Source} {a : Action} {p : Point}
    (h : s.ackAllowed src a.scope p = false ∨ ((s.point p).phase ≠ .alert ∧ (s.point p).phase ≠ .clearedUnacked)) :
    s.ackWalk src a p = s.advanceAction src a (afterPoint a.scope p) := by
  rw [afterPoint_eq, State.ackWalk]
  split
  case isTrue hallowed =>
    obtain ⟨ha, hc⟩ := h.resolve_left (by simp [hallowed])
    simp [State.ackPoint_idle src ha hc]
  case isFalse => rfl

/-- A point that passes the check and is acknowledged is counted (05 R95, R96). -/
theorem State.ackWalk_acknowledges {s v : State} {src : Source} {a : Action} {p : Point}
    (h : s.ackAllowed src a.scope p = true) (hv : s.ackPoint p src = (v, true)) :
    s.ackWalk src a p =
      v.advanceAction src { a with pointsChanged := a.pointsChanged + 1 } (afterPoint a.scope p) := by
  simp [State.ackWalk, h, hv, afterPoint_eq]

/-! ### A phase change as an event of the walk -/

theorem State.advanceAction_onlyUnits (v : State) (src : Source) (a : Action) (pos : Option WalkPos) :
    OnlyUnits v (v.advanceAction src a pos).finish := State.eq_of_fields (by simp)

/-- Going on after a phase change touches what the phase change touches, the operator unit and the chains. -/
theorem OnlyUnits.frame {s v t : State} (ht : OnlyUnits v t)
    (hv : v = { s with points := v.points, groups := v.groups, alarmList := v.alarmList, journal := v.journal,
                       nextSeq := v.nextSeq, output := v.output, chainA := v.chainA, chainB := v.chainB }) :
    t = { s with points := t.points, alarmList := t.alarmList, journal := t.journal, nextSeq := t.nextSeq,
                 operator := t.operator, output := t.output, groups := t.groups, chainA := t.chainA,
                 chainB := t.chainB } := by
  rw [OnlyUnits] at ht
  rw [ht, hv]

theorem State.move_deliveryOnly (s : State) (p : Point) (ph : Phase) (timer : Option Nat) (kind : RecordKind) (src : Source)
    (upd : Entry → Entry) (hj : s.journal.length ≤ Config.journalCapacity) (m : Link) :
    DeliveryOnly (s.chain m) ((s.move p ph timer kind src upd).chain m) := by
  cases h : ph.hasEntry
  · exact (s.move_appends p timer kind src upd h hj).deliveryOnly m
  · rw [State.move_entry s p ph timer kind src upd h]
    simpa using (s.setPhase p ph timer).append_deliveryOnly kind src (some p) (s.groupOf p) m

/-- A phase change that the walk makes, then going on: the one point, the parts it may touch, and the walk. -/
theorem State.move_walks (s : State) (p : Point) (ph : Phase) (timer : Option Nat) (kind : RecordKind) (src : Source)
    (upd : Entry → Entry) (hj : s.journal.length ≤ Config.journalCapacity) (a : Action) (pos : Option WalkPos) :
    let t := ((s.move p ph timer kind src upd).advanceAction src a pos).finish
    OnlyPoint s t p ∧
      t = { s with points := t.points, alarmList := t.alarmList, journal := t.journal, nextSeq := t.nextSeq,
                   operator := t.operator, output := t.output, groups := t.groups, chainA := t.chainA,
                   chainB := t.chainB } ∧
      Walks s t src a pos ∧ OnlyUnits (s.move p ph timer kind src upd) t := by
  have hunits := (s.move p ph timer kind src upd).advanceAction_onlyUnits src a pos
  have hframe := s.move_frame p ph timer kind src upd
  exact ⟨fun q hq => (hunits.point q).trans (s.move_onlyPoint p ph timer kind src upd q hq), hunits.frame hframe,
    State.advanceAction_walks src a pos (by rw [hframe]) (s.move_deliveryOnly p ph timer kind src upd hj), hunits⟩

/-- A mirrored phase change that the walk makes, then going on. -/
theorem State.move_mirrors_goesOn {s t : State} {p : Point} {ph : Phase} {timer : Option Nat} {kind : RecordKind}
    {src : Source} {upd : Entry → Entry} (hph : ph.hasEntry = true) (hj : s.journal.length ≤ Config.journalCapacity)
    (ht : OnlyUnits (s.move p ph timer kind src upd) t) :
    t.point p = (s.point p).moved ph timer (s.point p).shownMark ∧ t.groups = s.groups ∧
      t.alarmList = mirrored s.alarmList p (fun e => upd { e with phase := ph }) ∧
      Grows s t [(kind, src, some p, s.groupOf p)] ∧
      Latched s t (s.audible p && decide (ph = .alert)) (s.audible p && decide (ph = .ringback)) :=
  (State.move_mirrors (s.modifyPoint p fun x => x) p ph timer kind src upd hph).goesOn rfl hj
    (by rwa [State.modifyPoint_id])

/-! ### The statements -/

/-- The acknowledgement fields as the statement writes them (04 R75). -/
theorem Entry.acknowledge_eq (src : Source) (t : Stamp) (e : Entry) :
    e.acknowledge src t =
      { e with ackedBy := if e.ackedBy = none then some src else e.ackedBy,
               ackedAt := if e.ackedBy = none then some t else e.ackedAt } := by
  obtain ⟨point, group, phase, firstOut, raiseCount, openSeq, openTime, ackedBy, ackedAt⟩ := e
  cases ackedBy <;> rfl

/-- The re-alert timer by the group's interval (03 R57). -/
theorem State.realertStart_of_definitions {s : State} {p : Point} {d : PointDef} {g : GroupDef}
    (hd : (s.point p).definition = some d) (hg : (s.group d.group).definition = some g) :
    s.realertStart p = if g.realertMinutes = 0 then none else some (g.realertMinutes * 60000) := by
  simp [State.realertStart, State.groupDefOf_of_definitions hd hg, GroupDef.realertMs]

/-- The event at a point that fails the check, or on which ACK has no effect, goes on and does nothing else (03 R55, 05 R95). -/
theorem ackWalkEvent_passes {src : Source} {s : State} {a : Action} {p : Point} (hr : s.inReset = false)
    (ha : s.operator.slot src = some a) (hp : a.pos = .ackAt p)
    (h : s.ackAllowed src a.scope p = false ∨ ((s.point p).phase ≠ .alert ∧ (s.point p).phase ≠ .clearedUnacked)) :
    ∃ t, exec (.ackWalkEvent src) s = .next t ∧
      t = { s with operator := t.operator, chainA := t.chainA, chainB := t.chainB } ∧
      Walks s t src a (afterPoint a.scope p) :=
  ⟨_, by rw [exec_ackWalkEvent hr ha hp, State.ackWalk_passes h], s.advanceAction_only src a _⟩

/-- The event at a point that passes the check and is acknowledged (05 R95, R96). -/
theorem exec_ackWalkEvent_acknowledges {s v : State} {src : Source} {a : Action} {p : Point} (hr : s.inReset = false)
    (ha : s.operator.slot src = some a) (hp : a.pos = .ackAt p) (h : s.ackAllowed src a.scope p = true)
    (hv : s.ackPoint p src = (v, true)) :
    exec (.ackWalkEvent src) s = .next
      (v.advanceAction src { a with pointsChanged := a.pointsChanged + 1 } (afterPoint a.scope p)).finish := by
  rw [exec_ackWalkEvent hr ha hp, State.ackWalk_acknowledges h hv]

/-- Settles O29: at a point that passes the check the event is a per-point ACK, by the point's phase; any other point is passed
over. -/
theorem ackWalkAcknowledges : Obligations.AckWalkAcknowledges := by
  refine ⟨fun src s a p d g hr hj ha hp hs hd hg => ?_,
    fun src s a p hr ha hp h => ackWalkEvent_passes hr ha hp (.inl (State.ackAllowed_outside src h))⟩
  have hallowed := State.ackAllowed_iff (src := src) hd hs
  by_cases hgo : Permitted s d.group src ∧ ((s.point p).phase = .alert ∨ (s.point p).phase = .clearedUnacked)
  · have hstays : ¬ (¬ Permitted s d.group src ∨ ((s.point p).phase ≠ .alert ∧ (s.point p).phase ≠ .clearedUnacked)) := by
      tauto
    have hpasses := hallowed.mpr hgo.1
    rcases hgo.2 with halert | hcleared
    · obtain ⟨honly, hframe, hwalks, hunits⟩ := s.move_walks p .acked (s.realertStart p) (.acked .acked) src
        (Entry.acknowledge src s.time) hj { a with pointsChanged := a.pointsChanged + 1 } (afterPoint a.scope p)
      obtain ⟨hpoint, hgroups, hlist, hgrows, hlatch⟩ := State.move_mirrors_goesOn (ph := .acked) rfl hj hunits
      have htimer := State.realertStart_of_definitions hd hg
      simp only [Entry.acknowledge_eq] at hlist
      rw [State.groupOf_of_definition hd] at hgrows
      refine ⟨_, exec_ackWalkEvent_acknowledges hr ha hp hpasses (State.ackPoint_alert src halert), honly, hframe,
        fun _ _ => ?_, fun e _ hc => ?_, fun h => absurd h hstays⟩
      · exact ⟨hgroups, hwalks, hpoint.trans (by rw [htimer]), hlist, hgrows, by simpa using hlatch⟩
      · rw [halert] at hc
        cases hc
    · obtain ⟨honly, hframe, hwalks, hunits⟩ := s.move_walks p g.sequence.settled none (.acked g.sequence.settled) src
        (Entry.acknowledge src s.time) hj { a with pointsChanged := a.pointsChanged + 1 } (afterPoint a.scope p)
      have hack := State.ackPoint_cleared src hcleared
      rw [State.sequenceOf_of_definitions hd hg] at hack
      refine ⟨_, exec_ackWalkEvent_acknowledges hr ha hp hpasses hack, honly, hframe, fun _ hc => ?_, fun e _ _ he => ?_,
        fun h => absurd h hstays⟩
      · rw [hcleared] at hc
        cases hc
      · have hsettles := State.move_settles (f := fun x => x) (kind := .acked) hd hg he hj rfl
          (by rw [State.modifyPoint_id]; exact hunits)
        simp only [Entry.acknowledge_eq] at hsettles
        exact ⟨hwalks, hsettles⟩
  · have hpass : s.ackAllowed src a.scope p = false ∨
        ((s.point p).phase ≠ .alert ∧ (s.point p).phase ≠ .clearedUnacked) := by
      rw [← Bool.not_eq_true, hallowed]
      tauto
    obtain ⟨t, ht, hf, hwalks⟩ := ackWalkEvent_passes hr ha hp hpass
    exact ⟨t, ht, fun q _ => by rw [hf]; rfl, by rw [hf], fun hs hph => absurd ⟨hs, .inl hph⟩ hgo,
      fun e hs hph => absurd ⟨hs, .inr hph⟩ hgo, fun _ => ⟨hf, hwalks⟩⟩

/-- Settles O30: a point that is not changed is passed over, and after the last there is nowhere to go. -/
theorem ackWalkEndsWithItsReply : Obligations.AckWalkEndsWithItsReply := by
  intro src s a p hr ha hp hlast hidle
  have hpass : s.ackAllowed src a.scope p = false ∨
      ((s.point p).phase ≠ .alert ∧ (s.point p).phase ≠ .clearedUnacked) := by
    rcases hidle with h | h
    · exact .inr h
    · exact .inl (State.ackAllowed_outside src h)
  obtain ⟨t, ht, hf, hwalks⟩ := ackWalkEvent_passes hr ha hp hpass
  rw [afterPoint_last hlast] at hwalks
  refine ⟨t, ht, ?_, hwalks⟩
  rw [hf, hwalks.1]

end Sys2Proof.Machine
end

section
/-! SUPPORT. The alarm list beside what it must agree with (04 R70, R76, R77, R82; 06 R110, R111): the parts of the state that the
three invariants of phases, entries, marks and copies read, the changes of these parts, and that each change keeps the
invariants. -/

namespace Sys2Proof.Machine

/-! ### What the invariants read -/

/-- A point as the alarm list and the output unit see it: its phase, the copies of phase and mark, and its group. -/
structure PointAlarm where
  phase : Phase
  shownPhase : Phase
  shownMark : Bool
  group : Option Group

/-- The points, the groups with their first-out points, and the entries of the alarm list. -/
structure Alarms where
  point : Point → PointAlarm
  group : Group → GroupState
  entries : List Entry

def PointState.alarm (x : PointState) : PointAlarm :=
  { phase := x.phase, shownPhase := x.shownPhase, shownMark := x.shownMark, group := x.definition.map (·.group) }

def State.alarms (s : State) : Alarms :=
  { point := fun p => (s.point p).alarm, group := s.group, entries := s.alarmList }

/-- A list holds a marked entry of a point, under a group. -/
def Marks (list : List Entry) (g : Group) (p : Point) : Prop := ∃ e ∈ list, e.point = p ∧ e.group = g ∧ e.firstOut = true

/-- The agreement of entries and phases (04 R70). -/
structure Alarms.ListSound (v : Alarms) : Prop where
  nodup : (v.entries.map (·.point)).Nodup
  listed : ∀ p, (v.point p).phase.hasEntry = true ↔ ∃ e ∈ v.entries, e.point = p
  phases : ∀ e ∈ v.entries, e.phase = (v.point e.point).phase

/-- The copies of the phases (06 R110, R111). -/
def Alarms.CopiesFollow (v : Alarms) : Prop := ∀ p, (v.point p).shownPhase = (v.point p).phase

/-- The agreement of first-out points, marked entries and copies of the marks (04 R77, R82; 06 R110): the marked entries are
those of the groups' first-out points. -/
structure Alarms.MarksSound (v : Alarms) : Prop where
  names : ∀ e ∈ v.entries, (v.point e.point).group = some e.group
  first : ∀ g p, (v.group g).firstOut = some p ↔ Marks v.entries g p
  enabled : ∀ g p, (v.group g).firstOut = some p → ∃ d, (v.group g).definition = some d ∧ d.firstOutEnabled = true
  shown : ∀ p, (v.point p).shownMark = true ↔ ∃ g, Marks v.entries g p

theorem State.listSound_iff (s : State) : s.listSound ↔ s.alarms.ListSound :=
  ⟨fun ⟨hn, hl, hp⟩ => ⟨hn, hl, hp⟩, fun ⟨hn, hl, hp⟩ => ⟨hn, hl, hp⟩⟩

theorem State.copiesFollow_iff (s : State) : s.copiesFollow ↔ s.alarms.CopiesFollow := .rfl

theorem State.marksSound_iff (s : State) : s.marksSound ↔ s.alarms.MarksSound := by
  have hmarked (p : Point) : (∃ g, Marks s.alarmList g p) ↔ ∃ e ∈ s.alarmList, e.point = p ∧ e.firstOut = true :=
    ⟨fun ⟨_, e, he, hp, _, hm⟩ => ⟨e, he, hp, hm⟩, fun ⟨e, he, hp, hm⟩ => ⟨_, e, he, hp, rfl, hm⟩⟩
  constructor
  · rintro ⟨hfirst, hentry, hshown⟩
    refine ⟨fun e he => (hentry e he).1, fun g p => ⟨fun hg => ?_, ?_⟩, fun g p hg => (hfirst g p hg).2.1,
      fun p => (hshown p).trans (hmarked p).symm⟩
    · obtain ⟨hgroup, -, e, he, rfl, hm⟩ := hfirst g p hg
      have hnames := (hentry e he).1.symm.trans hgroup
      exact ⟨e, he, rfl, Option.some.inj hnames, hm⟩
    · rintro ⟨e, he, rfl, rfl, hm⟩
      exact (hentry e he).2 hm
  · rintro ⟨hnames, hfirst, henabled, hshown⟩
    refine ⟨fun g p hg => ?_, fun e he => ⟨hnames e he, fun hm => (hfirst _ _).mpr ⟨e, he, rfl, rfl, hm⟩⟩,
      fun p => (hshown p).trans (hmarked p)⟩
    obtain ⟨e, he, rfl, rfl, hm⟩ := (hfirst g p).mp hg
    exact ⟨hnames e he, henabled _ _ hg, e, he, rfl, hm⟩

/-! ### The changes -/

/-- A point takes a phase with the output unit's copy of it, and a mark in its copy (03 R46, 06 R111). -/
def Alarms.setPoint (v : Alarms) (p : Point) (ph : Phase) (mark : Bool) (g : Option Group) : Alarms :=
  { v with point := Function.update v.point p { phase := ph, shownPhase := ph, shownMark := mark, group := g } }

/-- A phase change within an episode: the entry of the point is changed in its place (03 R46, 04 R74). -/
def Alarms.mirroring (v : Alarms) (p : Point) (ph : Phase) (f : Entry → Entry) : Alarms :=
  { v.setPoint p ph (v.point p).shownMark (v.point p).group with entries := mirrored v.entries p f }

/-- Whether the close of a point's entry frees a group of its first-out point (04 R80). -/
def Alarms.frees (v : Alarms) (p : Point) (g : Group) : Bool :=
  (v.entries.find? fun e => decide (e.point = p)).any fun e => e.firstOut && decide (e.group = g)

/-- A phase change out of an episode: the entry of the point leaves the list (03 R46, 04 R76, R80). -/
def Alarms.closing (v : Alarms) (p : Point) (ph : Phase) : Alarms :=
  { v.setPoint p ph false (v.point p).group with
    entries := closed v.entries p
    group := fun g => { v.group g with firstOut := if v.frees p g then none else (v.group g).firstOut } }

/-- A group whose first-out point a marked entry becomes (04 R78). -/
def GroupState.marking (x : GroupState) (e : Entry) : GroupState :=
  { x with firstOut := if e.firstOut then some e.point else x.firstOut }

/-- An episode begins with an entry at the tail of the list (03 R49, 04 R73, R78). -/
def Alarms.opening (v : Alarms) (e : Entry) : Alarms :=
  { v.setPoint e.point .alert e.firstOut (v.point e.point).group with
    entries := v.entries ++ [e]
    group := Function.update v.group e.group ((v.group e.group).marking e) }

/-- A change of an entry that keeps its point, its group and its mark (04 R74, R75). -/
structure KeepsMark (f : Entry → Entry) : Prop where
  point : ∀ e, (f e).point = e.point
  group : ∀ e, (f e).group = e.group
  firstOut : ∀ e, (f e).firstOut = e.firstOut

/-- The entry without its mark (04 R79). -/
def Entry.unmarked (e : Entry) : Entry := { e with firstOut := false }

@[simp] theorem Entry.unmarked_point (e : Entry) : e.unmarked.point = e.point := rfl

/-- A RESET clears the first-out point of a group (04 R79). -/
def Alarms.clearing (v : Alarms) (g : Group) (p : Point) : Alarms :=
  { point := Function.update v.point p { v.point p with shownMark := false }
    group := Function.update v.group g { v.group g with firstOut := none }
    entries := mirrored v.entries p Entry.unmarked }

/-- A group is defined or undefined (01 R8, R10). -/
def Alarms.regrouping (v : Alarms) (g : Group) (d : Option GroupDef) : Alarms :=
  { v with group := Function.update v.group g { v.group g with definition := d } }

/-- The changes that the part makes at its points, groups and entries. -/
inductive AlarmChange : Alarms → Alarms → Prop where
  /-- A point without an entry takes another phase without one; its definition may change (01 R12, R14, R16; 07 R129). -/
  | rests {v : Alarms} {p : Point} {ph : Phase} (g : Option Group) (hv : (v.point p).phase.hasEntry = false)
      (hph : ph.hasEntry = false) : AlarmChange v (v.setPoint p ph false g)
  | mirrors {v : Alarms} {p : Point} {ph : Phase} {f : Entry → Entry} (hv : (v.point p).phase.hasEntry = true)
      (hph : ph.hasEntry = true) (hf : KeepsMark f) (hphase : ∀ e, (f e).phase = ph) : AlarmChange v (v.mirroring p ph f)
  | closes {v : Alarms} {p : Point} {ph : Phase} (hph : ph.hasEntry = false) : AlarmChange v (v.closing p ph)
  | opens {v : Alarms} (e : Entry) (hv : (v.point e.point).phase = .normal) (hg : (v.point e.point).group = some e.group)
      (hph : e.phase = .alert) (hmark : e.firstOut = true →
        (∃ d, (v.group e.group).definition = some d ∧ d.firstOutEnabled = true) ∧ (v.group e.group).firstOut = none) :
      AlarmChange v (v.opening e)
  | clears {v : Alarms} {g : Group} {p : Point} (hv : (v.group g).firstOut = some p) : AlarmChange v (v.clearing g p)
  /-- No member of the group is in service (01 R8, R10). -/
  | regroups {v : Alarms} {g : Group} (d : Option GroupDef)
      (hv : ∀ p, (v.point p).group = some g → (v.point p).phase = .outOfService) : AlarmChange v (v.regrouping g d)
  /-- A restart ends every episode (04 R87, 11 R186, R187). -/
  | restarts {v w : Alarms} (hphase : ∀ p, (w.point p).phase.hasEntry = false)
      (hshown : ∀ p, (w.point p).shownPhase = (w.point p).phase) (hmark : ∀ p, (w.point p).shownMark = false)
      (hfirst : ∀ g, (w.group g).firstOut = none) (hlist : w.entries = []) : AlarmChange v w

/-! ### Reading what a change leaves -/

/-- An update that keeps a field at its place keeps it everywhere. -/
theorem update_field {α β γ : Type} [DecidableEq α] {f : α → β} {a : α} {x : β} (field : β → γ)
    (h : field x = field (f a)) (b : α) : field (Function.update f a x b) = field (f b) := by
  rw [Function.update_apply]
  split
  · next hb => rw [h, hb]
  · rfl

theorem Alarms.setPoint_point (v : Alarms) (p q : Point) (ph : Phase) (mark : Bool) (g : Option Group) :
    (v.setPoint p ph mark g).point q =
      if q = p then { phase := ph, shownPhase := ph, shownMark := mark, group := g } else v.point q :=
  Function.update_apply v.point p _ q

/-- A change that leaves a point its group leaves every point its group. -/
theorem Alarms.setPoint_pointGroup (v : Alarms) (p q : Point) (ph : Phase) (mark : Bool) :
    ((v.setPoint p ph mark (v.point p).group).point q).group = (v.point q).group :=
  update_field PointAlarm.group (by rfl) q

theorem Alarms.setPoint_shownMark (v : Alarms) (p q : Point) (ph : Phase) (mark : Bool) (g : Option Group) :
    ((v.setPoint p ph mark g).point q).shownMark = if q = p then mark else (v.point q).shownMark := by
  rw [Alarms.setPoint_point, apply_ite PointAlarm.shownMark]

theorem Alarms.setPoint_phase (v : Alarms) (p q : Point) (ph : Phase) (mark : Bool) (g : Option Group) :
    ((v.setPoint p ph mark g).point q).phase = if q = p then ph else (v.point q).phase := by
  rw [Alarms.setPoint_point, apply_ite PointAlarm.phase]

theorem Alarms.mirroring_phase (v : Alarms) (p q : Point) (ph : Phase) (f : Entry → Entry) :
    ((v.mirroring p ph f).point q).phase = if q = p then ph else (v.point q).phase := v.setPoint_phase p q ph _ _

@[simp] theorem Alarms.mirroring_entries (v : Alarms) (p : Point) (ph : Phase) (f : Entry → Entry) :
    (v.mirroring p ph f).entries = mirrored v.entries p f := rfl

theorem Alarms.closing_phase (v : Alarms) (p q : Point) (ph : Phase) :
    ((v.closing p ph).point q).phase = if q = p then ph else (v.point q).phase := v.setPoint_phase p q ph _ _

@[simp] theorem Alarms.closing_entries (v : Alarms) (p : Point) (ph : Phase) :
    (v.closing p ph).entries = closed v.entries p := rfl

theorem Alarms.opening_phase (v : Alarms) (e : Entry) (q : Point) :
    ((v.opening e).point q).phase = if q = e.point then .alert else (v.point q).phase := v.setPoint_phase e.point q _ _ _

@[simp] theorem Alarms.opening_entries (v : Alarms) (e : Entry) : (v.opening e).entries = v.entries ++ [e] := rfl

theorem Alarms.clearing_phase (v : Alarms) (g : Group) (p q : Point) :
    ((v.clearing g p).point q).phase = (v.point q).phase := update_field PointAlarm.phase (by rfl) q

@[simp] theorem Alarms.clearing_entries (v : Alarms) (g : Group) (p : Point) :
    (v.clearing g p).entries = mirrored v.entries p Entry.unmarked := rfl

theorem mem_closed {list : List Entry} {p : Point} {e : Entry} : e ∈ closed list p ↔ e ∈ list ∧ e.point ≠ p := by
  simp [closed]

theorem mem_mirrored {list : List Entry} {p : Point} {f : Entry → Entry} {e : Entry} :
    e ∈ mirrored list p f ↔ (e ∈ list ∧ e.point ≠ p) ∨ ∃ x ∈ list, x.point = p ∧ f x = e := by
  unfold mirrored
  rw [List.mem_map]
  grind

theorem mirrored_points {list : List Entry} {p : Point} {f : Entry → Entry} (hf : ∀ e, (f e).point = e.point) :
    (mirrored list p f).map (·.point) = list.map (·.point) := by
  simp only [mirrored, List.map_map]
  refine List.map_congr_left fun e _ => ?_
  simp only [Function.comp_apply]
  split
  · exact hf e
  · rfl

/-- A change of entries that keeps their points lists the same points. -/
theorem mirrored_lists {list : List Entry} {p q : Point} {f : Entry → Entry} (hf : ∀ e, (f e).point = e.point) :
    (∃ e ∈ mirrored list p f, e.point = q) ↔ ∃ e ∈ list, e.point = q := by
  simpa only [List.mem_map] using iff_of_eq (congrArg (q ∈ ·) (mirrored_points (p := p) (list := list) hf))

theorem marks_closed {list : List Entry} {p q : Point} {g : Group} :
    Marks (closed list p) g q ↔ q ≠ p ∧ Marks list g q := by
  constructor
  · rintro ⟨e, he, rfl, h⟩
    exact ⟨(mem_closed.mp he).2, e, (mem_closed.mp he).1, rfl, h⟩
  · rintro ⟨hq, e, he, rfl, h⟩
    exact ⟨e, mem_closed.mpr ⟨he, hq⟩, rfl, h⟩

theorem marks_mirrored {list : List Entry} {p q : Point} {g : Group} {f : Entry → Entry} (hf : KeepsMark f) :
    Marks (mirrored list p f) g q ↔ Marks list g q := by
  have hkeeps (e : Entry) : (if e.point = p then f e else e).point = e.point ∧
      (if e.point = p then f e else e).group = e.group ∧ (if e.point = p then f e else e).firstOut = e.firstOut := by
    split
    · exact ⟨hf.point e, hf.group e, hf.firstOut e⟩
    · exact ⟨rfl, rfl, rfl⟩
  simp [Marks, mirrored, hkeeps]

theorem marks_unmarked {list : List Entry} {p q : Point} {g : Group} :
    Marks (mirrored list p Entry.unmarked) g q ↔ q ≠ p ∧ Marks list g q := by
  constructor
  · rintro ⟨e, he, rfl, rfl, hm⟩
    rcases mem_mirrored.mp he with ⟨he, hp⟩ | ⟨x, -, -, rfl⟩
    · exact ⟨hp, e, he, rfl, rfl, hm⟩
    · cases hm
  · rintro ⟨hq, e, he, rfl, h⟩
    exact ⟨e, mem_mirrored.mpr (.inl ⟨he, hq⟩), rfl, h⟩

theorem marks_append {list : List Entry} {e : Entry} {q : Point} {g : Group} :
    Marks (list ++ [e]) g q ↔ Marks list g q ∨ (e.point = q ∧ e.group = g ∧ e.firstOut = true) := by
  simp [Marks, or_and_right, exists_or]

/-- A point has at most one entry (04 R70). -/
theorem Alarms.ListSound.unique {v : Alarms} (h : v.ListSound) {e x : Entry} (he : e ∈ v.entries) (hx : x ∈ v.entries)
    (hp : e.point = x.point) : e = x := List.inj_on_of_nodup_map h.nodup he hx hp

/-- A point in a phase without an entry has none. -/
theorem Alarms.ListSound.unlisted {v : Alarms} (h : v.ListSound) {p : Point} (hp : (v.point p).phase.hasEntry = false) :
    ∀ e ∈ v.entries, e.point ≠ p := fun e he hpe => by
  rw [(h.listed p).mpr ⟨e, he, hpe⟩] at hp
  cases hp

/-- A close frees the group of a marked entry. -/
theorem Alarms.ListSound.frees_iff {v : Alarms} (h : v.ListSound) (p : Point) (g : Group) :
    v.frees p g = true ↔ Marks v.entries g p := by
  unfold Alarms.frees
  cases hf : v.entries.find? fun e => decide (e.point = p) with
  | none =>
    have hno : ∀ e ∈ v.entries, e.point ≠ p := by simpa using hf
    simp only [Option.any_none, Bool.false_eq_true, false_iff]
    rintro ⟨e, he, hp, -⟩
    exact hno e he hp
  | some x =>
    have hx : x ∈ v.entries := List.mem_of_find?_eq_some hf
    have hp : x.point = p := by simpa using List.find?_some hf
    simp only [Option.any_some, Bool.and_eq_true, decide_eq_true_eq]
    refine ⟨fun ⟨hm, hg⟩ => ⟨x, hx, hp, hg, hm⟩, ?_⟩
    rintro ⟨e, he, hpe, hg, hm⟩
    rw [h.unique hx he (hp.trans hpe.symm)]
    exact ⟨hm, hg⟩

/-! ### Each change keeps the invariants -/

/-- Every change tells the output unit the phase it gives a point (06 R111). -/
theorem AlarmChange.copiesFollow {v w : Alarms} (h : AlarmChange v w) (hv : v.CopiesFollow) : w.CopiesFollow := by
  have told (p : Point) (ph : Phase) (mark : Bool) (g : Option Group) : (v.setPoint p ph mark g).CopiesFollow := fun q => by
    rw [Alarms.setPoint_point]
    split
    · rfl
    · exact hv q
  cases h with
  | rests g => exact told _ _ _ g
  | mirrors | closes | opens => exact told _ _ _ _
  | @clears _ p =>
    have hkept := update_field (f := v.point) (a := p) (x := { v.point p with shownMark := false })
      (fun x => (x.shownPhase, x.phase)) rfl
    exact fun q => (congrArg Prod.fst (hkept q)).trans ((hv q).trans (congrArg Prod.snd (hkept q)).symm)
  | regroups => exact hv
  | restarts _ hshown => exact hshown

theorem Alarms.ListSound.rests {v : Alarms} (hv : v.ListSound) {p : Point} {ph : Phase} (g : Option Group)
    (hent : (v.point p).phase.hasEntry = false) (hph : ph.hasEntry = false) : (v.setPoint p ph false g).ListSound := by
  refine ⟨hv.nodup, fun q => ?_, fun e he => ?_⟩
  · rw [Alarms.setPoint_phase]
    split
    · next hq =>
      rw [hq, hph, ← hent]
      exact hv.listed p
    · exact hv.listed q
  · rw [Alarms.setPoint_phase, if_neg (hv.unlisted hent e he)]
    exact hv.phases e he

theorem Alarms.ListSound.mirrors {v : Alarms} (hv : v.ListSound) {p : Point} {ph : Phase} {f : Entry → Entry}
    (hent : (v.point p).phase.hasEntry = true) (hph : ph.hasEntry = true) (hf : KeepsMark f) (hphase : ∀ e, (f e).phase = ph) :
    (v.mirroring p ph f).ListSound := by
  refine ⟨(mirrored_points hf.point).symm ▸ hv.nodup, fun q => ?_, fun e he => ?_⟩
  · rw [Alarms.mirroring_entries, mirrored_lists hf.point, ← hv.listed q, Alarms.mirroring_phase]
    split
    · next hq => rw [hq, hent, hph]
    · rfl
  · rw [Alarms.mirroring_phase]
    rcases mem_mirrored.mp he with ⟨he, hne⟩ | ⟨x, -, hx, rfl⟩
    · rw [if_neg hne]
      exact hv.phases e he
    · rw [if_pos ((hf.point x).trans hx)]
      exact hphase x

theorem Alarms.ListSound.closes {v : Alarms} (hv : v.ListSound) (p : Point) {ph : Phase} (hph : ph.hasEntry = false) :
    (v.closing p ph).ListSound := by
  refine ⟨hv.nodup.sublist (List.filter_sublist.map _), fun q => ?_, fun e he => ?_⟩
  · simp only [Alarms.closing_phase, Alarms.closing_entries, mem_closed]
    split
    · next hq =>
      rw [hph]
      exact iff_of_false Bool.false_ne_true fun ⟨_, ⟨_, hne⟩, he⟩ => hne (he.trans hq)
    · next hq =>
      rw [hv.listed q]
      exact ⟨fun ⟨e, he, hp⟩ => ⟨e, ⟨he, hp ▸ hq⟩, hp⟩, fun ⟨e, ⟨he, _⟩, hp⟩ => ⟨e, he, hp⟩⟩
  · obtain ⟨he, hne⟩ := mem_closed.mp he
    rw [Alarms.closing_phase, if_neg hne]
    exact hv.phases e he

theorem Alarms.ListSound.opens {v : Alarms} (hv : v.ListSound) {e : Entry}
    (hent : (v.point e.point).phase.hasEntry = false) (hph : e.phase = .alert) : (v.opening e).ListSound := by
  have hno := hv.unlisted hent
  refine ⟨?_, fun q => ?_, fun x hx => ?_⟩
  · simpa [List.nodup_append, hv.nodup] using hno
  · have hlists : (∃ x ∈ (v.opening e).entries, x.point = q) ↔ (∃ x ∈ v.entries, x.point = q) ∨ e.point = q := by
      simp [or_and_right, exists_or]
    rw [hlists, ← hv.listed q, Alarms.opening_phase]
    split
    · next hq => exact iff_of_true rfl (.inr hq.symm)
    · next hq => exact (or_iff_left (Ne.symm hq)).symm
  · rw [Alarms.opening_phase]
    rcases List.mem_append.mp hx with hx | hx
    · rw [if_neg (hno x hx)]
      exact hv.phases x hx
    · rw [List.mem_singleton.mp hx, if_pos rfl, hph]

theorem Alarms.ListSound.clears {v : Alarms} (hv : v.ListSound) (g : Group) (p : Point) : (v.clearing g p).ListSound := by
  refine ⟨(mirrored_points Entry.unmarked_point).symm ▸ hv.nodup, fun q => ?_, fun e he => ?_⟩
  · rw [Alarms.clearing_entries, mirrored_lists Entry.unmarked_point, Alarms.clearing_phase]
    exact hv.listed q
  · rw [Alarms.clearing_phase]
    rcases mem_mirrored.mp he with ⟨he, -⟩ | ⟨x, hx, -, rfl⟩
    · exact hv.phases e he
    · exact hv.phases x hx

/-- Every change opens, mirrors or closes an entry as the phase it gives the point asks (04 R70). -/
theorem AlarmChange.listSound {v w : Alarms} (h : AlarmChange v w) (hv : v.ListSound) : w.ListSound := by
  cases h with
  | rests g hent hph => exact hv.rests g hent hph
  | mirrors hent hph hf hphase => exact hv.mirrors hent hph hf hphase
  | closes hph => exact hv.closes _ hph
  | opens e hnormal _ hph => exact hv.opens (by rw [hnormal]; rfl) hph
  | clears => exact hv.clears _ _
  | regroups => exact ⟨hv.nodup, hv.listed, hv.phases⟩
  | restarts hphase _ _ _ hlist => constructor <;> simp [hlist, hphase]

/-- A group has at most one marked entry (04 R77). -/
theorem Alarms.MarksSound.unique_point {v : Alarms} (h : v.MarksSound) {g : Group} {p q : Point}
    (hp : Marks v.entries g p) (hq : Marks v.entries g q) : q = p :=
  Option.some.inj (((h.first g q).mpr hq).symm.trans ((h.first g p).mpr hp))

/-- The marked entries of a point stand under its group. -/
theorem Alarms.MarksSound.unique_group {v : Alarms} (h : v.MarksSound) {g k : Group} {p : Point}
    (hg : Marks v.entries g p) (hk : Marks v.entries k p) : k = g := by
  obtain ⟨e, he, rfl, rfl, -⟩ := hg
  obtain ⟨x, hx, hp, rfl, -⟩ := hk
  exact Option.some.inj ((h.names x hx).symm.trans ((congrArg (fun q => (v.point q).group) hp).trans (h.names e he)))

theorem Alarms.MarksSound.rests {v : Alarms} (hv : v.MarksSound) (hl : v.ListSound) {p : Point} (ph : Phase) (g : Option Group)
    (hent : (v.point p).phase.hasEntry = false) : (v.setPoint p ph false g).MarksSound := by
  have hno := hl.unlisted hent
  refine ⟨fun e he => ?_, hv.first, hv.enabled, fun q => ?_⟩
  · rw [Alarms.setPoint_point, if_neg (hno e he)]
    exact hv.names e he
  · rw [Alarms.setPoint_shownMark]
    split
    case isTrue hq =>
      subst hq
      exact iff_of_false Bool.false_ne_true fun ⟨_, e, he, hp, _⟩ => hno e he hp
    case isFalse => exact hv.shown q

theorem Alarms.MarksSound.mirrors {v : Alarms} (hv : v.MarksSound) (p : Point) (ph : Phase) {f : Entry → Entry}
    (hf : KeepsMark f) :
    (v.mirroring p ph f).MarksSound := by
  refine ⟨fun e he => (v.setPoint_pointGroup p _ ph _).trans ?_, fun g q => (hv.first g q).trans (marks_mirrored hf).symm,
    hv.enabled, fun q => ?_⟩
  · rcases mem_mirrored.mp he with ⟨he, -⟩ | ⟨x, hx, -, rfl⟩
    · exact hv.names e he
    · rw [hf.point, hf.group]
      exact hv.names x hx
  · simp only [Alarms.mirroring, marks_mirrored hf]
    rw [← hv.shown q]
    exact iff_of_eq (congrArg (· = true) (update_field PointAlarm.shownMark (by rfl) q))

theorem Alarms.MarksSound.closes {v : Alarms} (hv : v.MarksSound) (hl : v.ListSound) (p : Point) (ph : Phase) :
    (v.closing p ph).MarksSound := by
  have hfirst (g : Group) (q : Point) : (if v.frees p g then none else (v.group g).firstOut) = some q ↔
      q ≠ p ∧ (v.group g).firstOut = some q := by
    rw [hv.first g q]
    split
    case isTrue h => exact iff_of_false nofun fun ⟨hq, hm⟩ => hq (hv.unique_point ((hl.frees_iff p g).mp h) hm)
    case isFalse h =>
      rw [hv.first g q]
      refine ⟨fun hm => ⟨?_, hm⟩, And.right⟩
      rintro rfl
      exact h ((hl.frees_iff q g).mpr hm)
  refine ⟨fun e he => (v.setPoint_pointGroup p _ ph _).trans (hv.names e (mem_closed.mp he).1), fun g q => ?_,
    fun g q hg => hv.enabled g q ((hfirst g q).mp hg).2, fun q => ?_⟩
  · rw [Alarms.closing_entries, marks_closed, ← hv.first g q]
    exact hfirst g q
  · simp only [Alarms.closing, marks_closed, exists_and_left, ← hv.shown q, Alarms.setPoint_shownMark]
    split
    case isTrue hq => exact iff_of_false Bool.false_ne_true fun h => h.1 hq
    case isFalse hq => exact (and_iff_right hq).symm

theorem Alarms.MarksSound.opens {v : Alarms} (hv : v.MarksSound) (hl : v.ListSound) {e : Entry}
    (hent : (v.point e.point).phase.hasEntry = false) (hg : (v.point e.point).group = some e.group)
    (hmark : e.firstOut = true →
      (∃ d, (v.group e.group).definition = some d ∧ d.firstOutEnabled = true) ∧ (v.group e.group).firstOut = none) :
    (v.opening e).MarksSound := by
  have hfirst (g : Group) (q : Point) : ((v.opening e).group g).firstOut = some q ↔
      (v.group g).firstOut = some q ∨ (e.point = q ∧ e.group = g ∧ e.firstOut = true) := by
    by_cases hge : g = e.group
    · subst hge
      cases hm : e.firstOut with
      | false => simp [Alarms.opening, GroupState.marking, hm]
      | true => simp [Alarms.opening, GroupState.marking, hm, (hmark hm).2]
    · simp [Alarms.opening, hge, Ne.symm hge]
  have hdef (g : Group) : ((v.opening e).group g).definition = (v.group g).definition :=
    update_field GroupState.definition (by rfl) g
  have hshown (q : Point) : ((v.opening e).point q).shownMark = true ↔
      (v.point q).shownMark = true ∨ (e.point = q ∧ e.firstOut = true) := by
    change ((v.setPoint e.point .alert e.firstOut (v.point e.point).group).point q).shownMark = true ↔ _
    rw [Alarms.setPoint_shownMark]
    split
    case isTrue hq =>
      have hclear : (v.point e.point).shownMark ≠ true := fun h => by
        obtain ⟨_, x, hx, hp, -⟩ := (hv.shown _).mp h
        exact hl.unlisted hent x hx hp
      simp [hclear, hq]
    case isFalse hq => simp [Ne.symm hq]
  refine ⟨fun x hx => (v.setPoint_pointGroup e.point _ _ _).trans ?_, fun g q => ?_, fun g q hq => ?_, fun q => ?_⟩
  · rcases List.mem_append.mp hx with hx | hx
    · exact hv.names x hx
    · rw [List.mem_singleton.mp hx]
      exact hg
  · rw [hfirst, hv.first g q]
    exact marks_append.symm
  · rw [hdef]
    rcases (hfirst g q).mp hq with hq | ⟨-, rfl, hm⟩
    · exact hv.enabled g q hq
    · exact (hmark hm).1
  · rw [hshown, hv.shown q]
    simp [Alarms.opening, marks_append, exists_or]

theorem Alarms.MarksSound.clears {v : Alarms} (hv : v.MarksSound) {g : Group} {p : Point}
    (hg : (v.group g).firstOut = some p) : (v.clearing g p).MarksSound := by
  have hp := (hv.first g p).mp hg
  have hfirst (k : Group) (q : Point) : ((v.clearing g p).group k).firstOut = some q ↔
      q ≠ p ∧ (v.group k).firstOut = some q := by
    by_cases hk : k = g
    · subst hk
      simp [Alarms.clearing, hg, eq_comm]
    · have hne : (v.group k).firstOut = some q → q ≠ p := by
        rintro h rfl
        exact hk (hv.unique_group hp ((hv.first k q).mp h))
      simpa [Alarms.clearing, hk] using hne
  have hdef (k : Group) : ((v.clearing g p).group k).definition = (v.group k).definition :=
    update_field GroupState.definition (by rfl) k
  have hgroup (q : Point) : ((v.clearing g p).point q).group = (v.point q).group := update_field PointAlarm.group (by rfl) q
  refine ⟨fun e he => (hgroup _).trans ?_, fun k q => ?_, fun k q hq => ?_, fun q => ?_⟩
  · rcases mem_mirrored.mp he with ⟨he, -⟩ | ⟨x, hx, -, rfl⟩
    · exact hv.names e he
    · exact hv.names x hx
  · rw [hfirst, hv.first k q]
    exact marks_unmarked.symm
  · rw [hdef]
    exact hv.enabled k q ((hfirst k q).mp hq).2
  · simp only [Alarms.clearing, marks_unmarked, exists_and_left, ← hv.shown q, Function.update_apply]
    split
    case isTrue hq => exact iff_of_false Bool.false_ne_true fun h => h.1 hq
    case isFalse hq => exact (and_iff_right hq).symm

theorem Alarms.MarksSound.regroups {v : Alarms} (hv : v.MarksSound) (hl : v.ListSound) {g : Group} (d : Option GroupDef)
    (hout : ∀ p, (v.point p).group = some g → (v.point p).phase = .outOfService) : (v.regrouping g d).MarksSound := by
  have hnone (p : Point) : ¬ Marks v.entries g p := by
    rintro ⟨e, he, rfl, rfl, -⟩
    refine hl.unlisted ?_ e he rfl
    rw [hout _ (hv.names e he)]
    rfl
  have hfirst (k : Group) : ((v.regrouping g d).group k).firstOut = (v.group k).firstOut :=
    update_field GroupState.firstOut (by rfl) k
  refine ⟨hv.names, fun k p => by rw [hfirst]; exact hv.first k p, fun k p hk => ?_, hv.shown⟩
  rw [hfirst] at hk
  have hkg : k ≠ g := by
    rintro rfl
    exact hnone p ((hv.first k p).mp hk)
  simpa [Alarms.regrouping, hkg] using hv.enabled k p hk

/-- Every change keeps the groups' first-out points, the marked entries and the copies of the marks in agreement (04 R77, R82;
06 R110). -/
theorem AlarmChange.marksSound {v w : Alarms} (h : AlarmChange v w) (hl : v.ListSound) (hv : v.MarksSound) :
    w.MarksSound := by
  cases h with
  | rests g hent => exact hv.rests hl _ g hent
  | mirrors _ _ hf => exact hv.mirrors _ _ hf
  | closes => exact hv.closes hl _ _
  | opens e hnormal hg _ hmark => exact hv.opens hl (by rw [hnormal]; rfl) hg hmark
  | clears hg => exact hv.clears hg
  | regroups d hout => exact hv.regroups hl d hout
  | restarts _ _ hmark hnone hlist => constructor <;> simp [Marks, hmark, hnone, hlist]

end Sys2Proof.Machine
end

section
/-! SUPPORT. What an event leaves of the points, groups and entries that the invariants of the alarm list read, where it leaves them
all alone. -/

namespace Sys2Proof.Machine

/-- Equal tables read equal. -/
theorem State.alarms_of_tables {s t : State} (hp : t.points = s.points) (hg : t.groups = s.groups)
    (hl : t.alarmList = s.alarmList) : t.alarms = s.alarms := by
  simp only [State.alarms, funext (State.point_congr hp), funext (State.group_congr hg), hl]

theorem State.modifyPoint_alarms (s : State) (p : Point) (f : PointState → PointState) :
    (s.modifyPoint p f).alarms = { s.alarms with point := Function.update s.alarms.point p (f (s.point p)).alarm } := by
  have hpoint (q : Point) :
      ((s.modifyPoint p f).point q).alarm = Function.update s.alarms.point p (f (s.point p)).alarm q := by
    rw [State.point_modifyPoint, Function.update_apply, apply_ite PointState.alarm]
    rfl
  rw [State.alarms, funext hpoint]
  rfl

/-- A change of one point in its timers and levels alone. -/
theorem State.modifyPoint_alarms_of_eq (s : State) (p : Point) (f : PointState → PointState)
    (h : (f (s.point p)).alarm = (s.point p).alarm) : (s.modifyPoint p f).alarms = s.alarms := by
  rw [State.modifyPoint_alarms, h, show (s.point p).alarm = s.alarms.point p from rfl, Function.update_eq_self]

theorem State.modifyGroup_alarms (s : State) (g : Group) (f : GroupState → GroupState) :
    (s.modifyGroup g f).alarms = { s.alarms with group := Function.update s.alarms.group g (f (s.group g)) } := by
  have hgroup (k : Group) : (s.modifyGroup g f).group k = Function.update s.group g (f (s.group g)) k := by
    rw [State.group_modifyGroup, Function.update_apply]
  rw [State.alarms, funext hgroup]
  rfl

theorem State.modifyEntry_alarms (s : State) (p : Point) (f : Entry → Entry) :
    (s.modifyEntry p f).alarms = { s.alarms with entries := mirrored s.alarms.entries p f } := rfl

/-! ### The updates of the units -/

@[simp] theorem State.setChain_alarms (s : State) (l : Link) (c : Chain) : (s.setChain l c).alarms = s.alarms := by
  cases l <;> rfl

@[simp] theorem State.modifyDelivery_alarms (s : State) (l : Link) (f : Delivery → Delivery) :
    (s.modifyDelivery l f).alarms = s.alarms := s.setChain_alarms l _

@[simp] theorem State.replacePlace_alarms (s : State) (l : Link) (f : Place → Option Place) :
    (s.replacePlace l f).alarms = s.alarms := s.setChain_alarms l _

@[simp] theorem State.setReceiver_alarms (s : State) (l : Link) (x : Receiver) : (s.setReceiver l x).alarms = s.alarms :=
  s.setChain_alarms l _

@[simp] theorem State.freeLine_alarms (s : State) (l : Link) : (s.freeLine l).alarms = s.alarms := s.setChain_alarms l _

@[simp] theorem State.modifySession_alarms (s : State) (f : SessionUnit → SessionUnit) :
    (s.modifySession f).alarms = s.alarms := rfl

@[simp] theorem State.modifyOperator_alarms (s : State) (f : OperatorUnit → OperatorUnit) :
    (s.modifyOperator f).alarms = s.alarms := rfl

@[simp] theorem State.modifyOutput_alarms (s : State) (f : OutputUnit → OutputUnit) :
    (s.modifyOutput f).alarms = s.alarms := rfl

@[simp] theorem State.advanceGeneration_alarms (s : State) : s.advanceGeneration.alarms = s.alarms := rfl

/-! ### The shared operations -/

@[simp] theorem State.append_alarms (s : State) (k : RecordKind) (src : Source) (p : Option Point) (g : Option Group) :
    (s.append k src p g).alarms = s.alarms := State.alarms_of_tables (by simp) (by simp) (by simp)

@[simp] theorem State.appendPoint_alarms (s : State) (k : RecordKind) (src : Source) (p : Point) :
    (s.appendPoint k src p).alarms = s.alarms := s.append_alarms k src _ _

@[simp] theorem State.appendBare_alarms (s : State) (k : RecordKind) (src : Source) :
    (s.appendBare k src).alarms = s.alarms := s.append_alarms k src _ _

@[simp] theorem State.startTx_alarms (s : State) (l : Link) : (s.startTx l).alarms = s.alarms :=
  State.alarms_of_tables (by simp) (by simp) (by simp)

@[simp] theorem State.finish_alarms (s : State) : s.finish.alarms = s.alarms :=
  State.alarms_of_tables (by simp) (by simp) (by simp)

@[simp] theorem State.renewLease_alarms (s : State) (l : Link) : (s.renewLease l).alarms = s.alarms :=
  State.alarms_of_tables (by simp) (by simp) (by simp)

@[simp] theorem State.advanceAction_alarms (s : State) (src : Source) (a : Action) (pos : Option WalkPos) :
    (s.advanceAction src a pos).alarms = s.alarms := State.alarms_of_tables (by simp) (by simp) (by simp)

@[simp] theorem State.lampSources_alarms (s : State) (src : Source) (f : OutputUnit → OutputUnit) :
    (s.lampSources src f).alarms = s.alarms := by
  unfold State.lampSources
  dsimp only
  split <;> simp

@[simp] theorem State.silence_alarms (s : State) (src : Source) : (s.silence src).alarms = s.alarms := by
  unfold State.silence
  split <;> simp

/-! ### The operator unit -/

@[simp] theorem State.beginAction_alarms (s : State) (a : Action) : (s.beginAction a).alarms = s.alarms := rfl

@[simp] theorem State.beginPress_alarms (s : State) (x : Press) : (s.beginPress x).alarms = s.alarms := by
  cases x <;> simp [State.beginPress]

@[simp] theorem State.takePress_alarms (s : State) (x : Press) : (s.takePress x).alarms = s.alarms := by
  unfold State.takePress
  split <;> simp

@[simp] theorem State.takePanelTransition_alarms (s : State) (line : PanelLine) (active : Bool) :
    (s.takePanelTransition line active).alarms = s.alarms := by
  unfold State.takePanelTransition
  split
  · simp
  · split <;> simp

@[simp] theorem State.examineGroup_alarms (s : State) (src : Source) (a : Action) (g : Group) :
    (s.examineGroup src a g).alarms = s.alarms := by
  unfold State.examineGroup
  split <;> simp

theorem State.operatorRequest_alarms (s : State) (kind : ActionKind) (l : Link) (tag : Byte) (zeros : List Byte)
    (scope : Option Scope) : (s.operatorRequest kind l tag zeros scope).1.alarms = s.alarms := by
  unfold State.operatorRequest
  split
  · rfl
  · split <;> rfl

theorem State.lampTestRequest_alarms (s : State) (l : Link) (n : Nat) : (s.lampTestRequest l n).1.alarms = s.alarms := by
  unfold State.lampTestRequest
  split
  · rfl
  · exact s.lampSources_alarms _ _

/-! ### Links, deliveries, sessions and time -/

@[simp] theorem State.confirmFrame_alarms (s : State) (l : Link) (body : List Byte) :
    (s.confirmFrame l body).alarms = s.alarms := by
  unfold State.confirmFrame
  dsimp only
  split
  · split <;> simp
  · rfl

@[simp] theorem State.takeFrame_alarms (s : State) (l : Link) (q : Request) : (s.takeFrame l q).alarms = s.alarms := by
  unfold State.takeFrame
  repeat' split
  all_goals simp

@[simp] theorem State.retransmissionExpiry_alarms (s : State) (l : Link) :
    (s.retransmissionExpiry l).alarms = s.alarms := by
  unfold State.retransmissionExpiry
  split <;> simp

theorem State.subscribeRequest_alarms (s : State) (l : Link) (start : Option Seq) :
    (s.subscribeRequest l start).1.alarms = s.alarms := by
  unfold State.subscribeRequest
  split
  · rfl
  · exact s.modifyDelivery_alarms l _

theorem State.unsubscribeRequest_alarms (s : State) (l : Link) : (s.unsubscribeRequest l).1.alarms = s.alarms := by
  unfold State.unsubscribeRequest
  dsimp only
  split
  · rfl
  · exact s.modifyDelivery_alarms l _

@[simp] theorem State.closeSession_alarms (s : State) (l : Link) (act : SessionAction) :
    (s.closeSession l act).alarms = s.alarms := by
  unfold State.closeSession State.dropAuthority
  split <;> simp

@[simp] theorem State.openSession_alarms (s : State) (l : Link) : (s.openSession l).alarms = s.alarms := by
  unfold State.openSession
  dsimp only
  split <;> simp

theorem State.claimRequest_alarms (s : State) (l : Link) : (s.claimRequest l).1.alarms = s.alarms := by
  unfold State.claimRequest
  split
  · simp
  · split <;> simp

theorem State.releaseRequest_alarms (s : State) (l : Link) : (s.releaseRequest l).1.alarms = s.alarms := by
  unfold State.releaseRequest
  split <;> simp

theorem State.restartRequest_alarms (s : State) (l : Link) : (s.restartRequest l).1.alarms = s.alarms := by
  unfold State.restartRequest
  split <;> simp

theorem State.setTimeRequest_alarms (s : State) (l : Link) (arg : Option Stamp) :
    (s.setTimeRequest l arg).1.alarms = s.alarms := by
  cases arg with
  | none => rfl
  | some t => exact State.appendBare_alarms _ _ _

/-! ### The requests -/

@[simp] theorem State.conclude_alarms (s : State) (l : Link) (q : Request) (a : Answer) :
    (s.conclude l q a).alarms = s.alarms := by
  rw [State.conclude_frame]
  rfl

@[simp] theorem State.settle_alarms (s : State) (l : Link) (k : ReqKind) (a : Answer) :
    (s.settle l k a).alarms = s.alarms := by
  rw [State.settle_frame]
  rfl

@[simp] theorem State.renewFor_alarms (s : State) (l : Link) (k : ReqKind) : (s.renewFor l k).alarms = s.alarms := by
  unfold State.renewFor
  split <;> simp

/-- A request leaves the points, groups and entries as they were, or as its owner leaves them (10 R174). -/
theorem State.serve_alarms_cases (s : State) (l : Link) (k : ReqKind) (sel : Request → Bool)
    (act : Request → State → State × Answer) :
    (s.serve l k sel act).alarms = s.alarms ∨
      ∃ q u, u.alarms = s.alarms ∧ (s.serve l k sel act).alarms = (act q u).1.alarms := by
  unfold State.serve State.whenRunning
  split
  · exact .inl rfl
  · dsimp only
    split
    · rename_i q _
      rw [State.settle_alarms, State.conclude_alarms]
      unfold State.handle
      split
      · exact .inl (s.renewFor_alarms l k)
      · exact .inr ⟨q, _, s.renewFor_alarms l k, rfl⟩
    · exact .inl rfl

end Sys2Proof.Machine
end

section
/-! SUPPORT. Every step of the part is a sequence of changes of its points, groups and entries (03, 04), and the statements on the
alarm list. -/

namespace Sys2Proof.Machine

/-! ### Sequences of changes -/

/-- From `s` to `t` points, groups and entries go through changes alone. -/
def AlarmSteps (s t : State) : Prop := Relation.ReflTransGen AlarmChange s.alarms t.alarms

/-- What every change keeps, every sequence of changes keeps. -/
theorem AlarmSteps.keeps {s t : State} (h : AlarmSteps s t) {P : Alarms → Prop}
    (hP : ∀ v w, AlarmChange v w → P v → P w) (hs : P s.alarms) : P t.alarms := by
  unfold AlarmSteps at h
  generalize t.alarms = w at h
  induction h with
  | refl => exact hs
  | tail _ hchange ih => exact hP _ _ hchange ih

theorem AlarmSteps.of_alarms {s t : State} (h : t.alarms = s.alarms) : AlarmSteps s t := by
  rw [AlarmSteps, h]

theorem AlarmSteps.rfl' (s : State) : AlarmSteps s s := .of_alarms rfl

theorem AlarmSteps.trans {s t u : State} (h : AlarmSteps s t) (k : AlarmSteps t u) : AlarmSteps s u :=
  Relation.ReflTransGen.trans h k

theorem AlarmSteps.of_change {s t : State} {w : Alarms} (h : AlarmChange s.alarms w) (ht : t.alarms = w) : AlarmSteps s t :=
  .single (ht ▸ h)

theorem AlarmSteps.finish {s t : State} (h : AlarmSteps s t) : AlarmSteps s t.finish := h.trans (.of_alarms t.finish_alarms)

theorem AlarmSteps.advanceAction {s t : State} (h : AlarmSteps s t) (src : Source) (a : Action) (pos : Option WalkPos) :
    AlarmSteps s (t.advanceAction src a pos) := h.trans (.of_alarms (t.advanceAction_alarms src a pos))

theorem AlarmSteps.modifyPoint {s : State} {p : Point} {f : PointState → PointState}
    (h : (f (s.point p)).alarm = (s.point p).alarm) : AlarmSteps s (s.modifyPoint p f) :=
  .of_alarms (s.modifyPoint_alarms_of_eq p f h)

theorem AlarmSteps.whenRunning {s : State} {f : State → State} (h : AlarmSteps s (f s)) : AlarmSteps s (s.whenRunning f) := by
  unfold State.whenRunning
  split
  · exact .rfl' s
  · exact h

/-- A request makes the changes that its owner makes (10 R174). -/
theorem AlarmSteps.serve {s : State} {l : Link} {k : ReqKind} {sel : Request → Bool}
    {act : Request → State → State × Answer} (h : ∀ q u, AlarmSteps u (act q u).1) : AlarmSteps s (s.serve l k sel act) := by
  rcases s.serve_alarms_cases l k sel act with e | ⟨q, u, hu, e⟩
  · exact .of_alarms e
  · exact .trans (.of_alarms hu) ((h q u).trans (.of_alarms e))

/-- A request whose owner makes no change. -/
theorem AlarmSteps.serve_alarms {s : State} {l : Link} {k : ReqKind} {sel : Request → Bool}
    {act : Request → State → State × Answer} (h : ∀ q u, (act q u).1.alarms = u.alarms) :
    AlarmSteps s (s.serve l k sel act) := .serve fun q u => .of_alarms (h q u)

/-- SET TIME makes no change, whatever its body reads as. -/
theorem AlarmSteps.serve_setTime (s : State) (l : Link) (parse : Request → Option Stamp) :
    AlarmSteps s (s.serve l .setTime anyRequest fun q u => u.setTimeRequest l (parse q)) :=
  .serve_alarms fun q u => u.setTimeRequest_alarms l (parse q)

/-! ### Phase changes -/

/-- An event that changes one point. -/
theorem State.alarms_of_onlyPoint {s t : State} {p : Point} (ho : OnlyPoint s t p) {x : PointAlarm}
    (hp : (t.point p).alarm = x) :
    t.alarms = { point := Function.update s.alarms.point p x, group := t.group, entries := t.alarmList } := by
  have hpoint (q : Point) : (t.point q).alarm = Function.update s.alarms.point p x q := by
    rw [Function.update_apply]
    split
    · next hq => rw [hq, hp]
    · next hq => rw [ho q hq]; rfl
  rw [State.alarms, funext hpoint]

/-- A point that moves between phases without an entry, no group and no entry changing. -/
theorem AlarmSteps.rests {s t : State} {p : Point} {ph : Phase} {x : PointState} {timer : Option Nat} (ho : OnlyPoint s t p)
    (hp : (t.point p).alarm = (x.moved ph timer false).alarm) (hg : t.groups = s.groups) (hl : t.alarmList = s.alarmList)
    (hent : (s.point p).phase.hasEntry = false) (hph : ph.hasEntry = false) : AlarmSteps s t := by
  refine .of_change (.rests (x.definition.map (·.group)) hent hph) ?_
  rw [State.alarms_of_onlyPoint ho hp, hl, funext (State.group_congr hg)]
  rfl

/-- A change of an entry that keeps point, group, mark and phase, as a re-raise and an acknowledgement are (04 R74, R75). -/
structure KeepsPlace (upd : Entry → Entry) : Prop extends KeepsMark upd where
  phase : ∀ e, (upd e).phase = e.phase

theorem KeepsPlace.id : KeepsPlace id := ⟨⟨fun _ => rfl, fun _ => rfl, fun _ => rfl⟩, fun _ => rfl⟩

theorem KeepsPlace.countRaise : KeepsPlace Entry.countRaise := ⟨⟨fun _ => rfl, fun _ => rfl, fun _ => rfl⟩, fun _ => rfl⟩

theorem KeepsPlace.acknowledge (src : Source) (t : Stamp) : KeepsPlace (Entry.acknowledge src t) := by
  have h (e : Entry) : (e.acknowledge src t).point = e.point ∧ (e.acknowledge src t).group = e.group ∧
      (e.acknowledge src t).firstOut = e.firstOut ∧ (e.acknowledge src t).phase = e.phase := by
    rw [Entry.acknowledge_eq]
    exact ⟨rfl, rfl, rfl, rfl⟩
  exact ⟨⟨fun e => (h e).1, fun e => (h e).2.1, fun e => (h e).2.2.1⟩, fun e => (h e).2.2.2⟩

theorem AlarmSteps.of_mirrors {s t : State} {p : Point} {ph : Phase} {timer : Option Nat} {item : Item} {upd : Entry → Entry}
    (h : Mirrors s t p ph timer item upd) (hent : (s.point p).phase.hasEntry = true) (hph : ph.hasEntry = true)
    (hupd : KeepsPlace upd) : AlarmSteps s t := by
  have hgroups : t.groups = s.groups := by rw [h.frame]
  refine .of_change (.mirrors (p := p) (f := fun e => upd { e with phase := ph }) hent hph
    ⟨fun _ => hupd.point _, fun _ => hupd.group _, fun _ => hupd.firstOut _⟩ fun _ => hupd.phase _) ?_
  rw [State.alarms_of_onlyPoint h.others (congrArg PointState.alarm h.point), h.list, funext (State.group_congr hgroups)]
  rfl

/-- The groups after a close: that of a marked entry is free (04 R80). -/
theorem Closes.group_eq {s t : State} {p : Point} {ph : Phase} {timer : Option Nat} {item : Item} {src : Source}
    (h : Closes s t p ph timer item src) (g : Group) :
    t.group g = { s.group g with firstOut := if s.alarms.frees p g then none else (s.group g).firstOut } := by
  have hfrees : s.alarms.frees p g = (s.entry? p).any fun e => e.firstOut && decide (e.group = g) := rfl
  rw [hfrees]
  cases he : s.entry? p with
  | none => simp [State.group_congr (h.noEntry he).1]
  | some e =>
    obtain ⟨hothers, hgroup, -⟩ := h.anEntry e he
    by_cases hg : g = e.group
    · subst hg
      simp [hgroup]
    · simp [hothers g hg, Ne.symm hg]

theorem AlarmSteps.of_closes {s t : State} {p : Point} {ph : Phase} {timer : Option Nat} {item : Item} {src : Source}
    (h : Closes s t p ph timer item src) (hph : ph.hasEntry = false) : AlarmSteps s t := by
  refine .of_change (.closes (p := p) hph) ?_
  rw [State.alarms_of_onlyPoint h.others (congrArg PointState.alarm h.point), h.list, funext h.group_eq]
  rfl

/-- A phase change out of an episode, or of a point with an entry (03 R46). -/
theorem AlarmSteps.move {s : State} {p : Point} {ph : Phase} {timer : Option Nat} {kind : RecordKind} {src : Source}
    {upd : Entry → Entry} (hent : ph.hasEntry = true → (s.point p).phase.hasEntry = true) (hupd : KeepsPlace upd) :
    AlarmSteps s (s.move p ph timer kind src upd) := by
  cases h : ph.hasEntry
  · exact .of_closes (s.move_closes p ph timer kind src upd h) h
  · exact .of_mirrors (s.move_mirrors p ph timer kind src upd h) (hent h) h hupd

theorem State.takesMark_iff {s : State} {d : PointDef} : s.takesMark d = true ↔
    (∃ g, (s.group d.group).definition = some g ∧ g.firstOutEnabled = true) ∧ (s.group d.group).firstOut = none := by
  unfold State.takesMark
  cases (s.group d.group).definition <;> simp

/-- An episode begins with an entry under the point's group (03 R49, 04 R73, R78). -/
theorem State.openEpisode_steps {s : State} {p : Point} {d : PointDef} (hd : (s.point p).definition = some d)
    (hp : (s.point p).phase = .normal) : AlarmSteps s (s.openEpisode p d) := by
  have h := s.openEpisode_opens p d
  have hgroup : (s.point p).definition.map (·.group) = some d.group := by rw [hd]; rfl
  refine .of_change (.opens (s.newEntry p d) hp hgroup rfl State.takesMark_iff.mp) ?_
  have hgroups (g : Group) : (s.openEpisode p d).group g =
      Function.update s.group d.group ((s.group d.group).marking (s.newEntry p d)) g := by
    rw [Function.update_apply]
    split
    · next hg => rw [hg, h.group]; rfl
    · next hg => exact h.otherGroups g hg
  rw [State.alarms_of_onlyPoint h.others (congrArg PointState.alarm h.point), h.list, funext hgroups]
  rfl

theorem State.clearMark_alarms (s : State) (g : Group) (p : Point) (src : Source) :
    (s.clearMark g p src).alarms = s.alarms.clearing g p := by
  rw [State.clearMark, State.modifyPoint_alarms, State.append_point, State.append_alarms, State.modifyEntry_alarms,
    State.modifyGroup_alarms]
  rfl

/-- A RESET clears a group's first-out point, if it has one (04 R79). -/
theorem State.clearFirstOut_steps (s : State) (g : Group) (src : Source) : AlarmSteps s (s.clearFirstOut g src).1 := by
  cases h : (s.group g).firstOut with
  | none =>
    rw [State.clearFirstOut, h]
    exact .rfl' s
  | some p =>
    rw [State.clearFirstOut_some src h]
    exact .of_change (.clears h) (s.clearMark_alarms g p src)

/-! ### RAISE and CLEAR -/

theorem State.reraise_steps {s : State} {p : Point} (hent : (s.point p).phase.hasEntry = true) :
    AlarmSteps s (s.reraise p) := by
  unfold State.reraise
  split
  · exact .move (fun _ => hent) .id
  · exact .move (fun _ => hent) .countRaise

theorem State.engineRaise_steps {s : State} {p : Point} {d : PointDef} (hd : (s.point p).definition = some d) :
    AlarmSteps s (s.engineRaise p d) := by
  unfold State.engineRaise
  split
  case h_1 hp => exact State.openEpisode_steps hd hp
  case h_2 hp | h_3 hp | h_4 hp => exact State.reraise_steps (by rw [hp]; rfl)
  all_goals exact .rfl' s

theorem State.suppress_steps (s : State) (p : Point) : AlarmSteps s (s.suppress p) :=
  .trans (.modifyPoint rfl) (.move nofun .id)

theorem State.raise_steps {s : State} {p : Point} {d : PointDef} (hd : (s.point p).definition = some d) :
    AlarmSteps s (s.raise p d) := by
  unfold State.raise State.chatterRaise
  split
  · exact State.engineRaise_steps hd
  · split
    · exact .modifyPoint rfl
    · split
      · exact .trans (.modifyPoint rfl) (State.engineRaise_steps (by rwa [State.point_modifyPoint_self]))
      · exact s.suppress_steps p

theorem State.engineClear_steps (s : State) (p : Point) : AlarmSteps s (s.engineClear p) := by
  unfold State.engineClear
  split
  case h_1 hp | h_2 hp => exact .move (fun _ => by rw [hp]; rfl) .id
  all_goals exact .rfl' s

theorem State.clear_steps (s : State) (p : Point) (d : PointDef) : AlarmSteps s (s.clear p d) := by
  unfold State.clear State.chatterClear
  split
  · exact s.engineClear_steps p
  · split
    · exact .modifyPoint rfl
    · exact s.engineClear_steps p

theorem State.ackPoint_steps (s : State) (p : Point) (src : Source) : AlarmSteps s (s.ackPoint p src).1 := by
  unfold State.ackPoint
  split
  case h_1 hp | h_2 hp => exact .move (fun _ => by rw [hp]; rfl) (.acknowledge src s.time)
  all_goals exact .rfl' s

theorem State.resetPoint_steps (s : State) (p : Point) (src : Source) : AlarmSteps s (s.resetPoint p src).1 := by
  unfold State.resetPoint
  split
  case h_1 | h_2 => exact .move nofun .id
  all_goals exact .rfl' s

/-! ### Qualification -/

theorem State.becomeAbnormal_steps {s : State} {p : Point} {d : PointDef} (hd : (s.point p).definition = some d) :
    AlarmSteps s (s.becomeAbnormal p d) :=
  .trans (.modifyPoint rfl) (State.raise_steps (by rwa [State.point_modifyPoint_self]))

theorem State.becomeNormal_steps (s : State) (p : Point) (d : PointDef) : AlarmSteps s (s.becomeNormal p d) :=
  .trans (.modifyPoint rfl) (State.clear_steps _ p d)

theorem State.beginAbnormal_steps {s : State} {p : Point} {d : PointDef} (hd : (s.point p).definition = some d) :
    AlarmSteps s (s.beginAbnormal p d) := by
  unfold State.beginAbnormal
  split
  · exact State.becomeAbnormal_steps hd
  · exact .modifyPoint rfl

theorem AlarmSteps.delayMoved (s : State) (p : Point) (d : PointDef) (level : Level) :
    AlarmSteps s (s.modifyPoint p (PointState.delayMoved d level)) :=
  .modifyPoint (by rw [PointState.delayMoved_frame]; rfl)

theorem State.takeAbnormal_steps {s : State} {p : Point} {d : PointDef} (hd : (s.point p).definition = some d) :
    AlarmSteps s (s.takeAbnormal p d) := by
  by_cases h : (s.point p).qualified = .normalQ ∧ (s.point p).delay = .idle
  · obtain ⟨hq, hi⟩ := h
    simp only [State.takeAbnormal, hq, hi]
    exact State.beginAbnormal_steps hd
  · rw [State.takeAbnormal_moves fun hq hi => absurd ⟨hq, hi⟩ h]
    exact .delayMoved s p d _

theorem State.takeNormal_steps (s : State) (p : Point) (d : PointDef) : AlarmSteps s (s.takeNormal p d) := by
  by_cases h : (s.point p).qualified = .abnormalQ ∧ (s.point p).delay = .idle ∧ d.offDelay = 0
  · obtain ⟨hq, hi, h0⟩ := h
    simp only [State.takeNormal, hq, hi, h0, if_true]
    exact s.becomeNormal_steps p d
  · rw [State.takeNormal_moves fun hq hi h0 => h ⟨hq, hi, h0⟩]
    exact .delayMoved s p d _

theorem State.qualify_steps {s : State} {p : Point} {d : PointDef} (hd : (s.point p).definition = some d) (level : Level) :
    AlarmSteps s (s.qualify p d level) := by
  cases level
  · exact s.takeNormal_steps p d
  · exact State.takeAbnormal_steps hd

/-! ### Service, definition and RESTORE -/

theorem State.restorePoint_steps {s : State} {p : Point} (cause : RestoreCause) (src : Source)
    (hp : (s.point p).phase = .suppressed) : AlarmSteps s (s.restorePoint p cause src) := by
  refine .rests (ph := .normal) (s.restorePoint_onlyPoint p cause src) (x := s.point p) (timer := none) ?_ ?_ ?_
    (by rw [hp]; rfl) rfl
  · rw [State.restorePoint_point]; rfl
  · simp [State.restorePoint, State.appendPoint]
  · simp [State.restorePoint, State.appendPoint]

theorem State.restoreRequest_steps (s : State) (l : Link) (arg : Option Point) : AlarmSteps s (s.restoreRequest l arg).1 := by
  unfold State.restoreRequest State.restoreByRequest
  split
  · exact .rfl' s
  · split
    · exact .rfl' s
    · next p _ d hd =>
      split
      case isFalse => exact .rfl' s
      case isTrue hp =>
        have hrestored := State.restorePoint_steps .request (linkSource l) hp
        dsimp only
        split
        · exact hrestored.trans (State.raise_steps (by rw [State.restorePoint_point]; exact hd))
        · exact hrestored

theorem State.putGroup_alarms (s : State) (l : Link) (g : Group) (d : GroupDef) :
    (s.putGroup l g d).alarms = s.alarms.regrouping g (some d) := by
  rw [State.putGroup, State.append_alarms, State.advanceGeneration_alarms, State.modifyGroup_alarms]
  rfl

theorem State.removeGroup_alarms (s : State) (l : Link) (g : Group) :
    (s.removeGroup l g).alarms = s.alarms.regrouping g none := by
  rw [State.removeGroup, State.append_alarms, State.advanceGeneration_alarms, State.modifyGroup_alarms]
  rfl

theorem State.defineGroupRequest_steps (s : State) (l : Link) (arg : Option (Group × GroupDef)) :
    AlarmSteps s (s.defineGroupRequest l arg).1 := by
  classical
  cases arg with
  | none => exact .rfl' s
  | some arg =>
    obtain ⟨g, d⟩ := arg
    rw [State.defineGroupRequest_eq]
    split
    case isTrue h => exact .of_change (.regroups (g := g) (some d) h) (s.putGroup_alarms l g d)
    case isFalse => exact .rfl' s

theorem State.undefineGroupRequest_steps (s : State) (l : Link) (arg : Option Group) :
    AlarmSteps s (s.undefineGroupRequest l arg).1 := by
  classical
  cases arg with
  | none => exact .rfl' s
  | some g =>
    rw [State.undefineGroupRequest_eq]
    split
    · exact .rfl' s
    · split
      case isTrue h => exact .of_change (.regroups (g := g) none fun p hp => absurd hp (h p)) (s.removeGroup_alarms l g)
      case isFalse => exact .rfl' s

theorem State.definePointRequest_steps (s : State) (l : Link) (arg : Option (Point × PointDef)) :
    AlarmSteps s (s.definePointRequest l arg).1 := by
  unfold State.definePointRequest
  split
  · exact .rfl' s
  · next p d =>
    split
    · exact .rfl' s
    · split
      case isFalse => exact .rfl' s
      case isTrue hp =>
        refine .rests (p := p) (ph := .outOfService) (x := (s.point p).define d) (timer := none) (fun q hq => ?_) ?_ ?_ ?_ ?_ rfl
        · simp [State.accepted, State.putPoint, State.point_tell, State.point_modifyPoint, State.appendPoint, hq]
        · simp [State.accepted, State.putPoint, State.point_tell, State.appendPoint]; rfl
        · simp [State.accepted, State.putPoint, State.appendPoint]
        · simp [State.accepted, State.putPoint, State.appendPoint]
        · rcases hp with hp | hp <;> rw [hp] <;> rfl

theorem State.undefinePointRequest_steps (s : State) (l : Link) (arg : Option Point) :
    AlarmSteps s (s.undefinePointRequest l arg).1 := by
  unfold State.undefinePointRequest
  split
  · exact .rfl' s
  · next p =>
    split
    · exact .rfl' s
    · split
      case isFalse => exact .rfl' s
      case isTrue hp =>
        refine .rests (p := p) (ph := .undefined) (x := (s.point p).undefine) (timer := none) (fun q hq => ?_) ?_ ?_ ?_ ?_ rfl
        · simp [State.accepted, State.removePoint, State.point_tell, State.point_modifyPoint, hq]
        · simp [State.accepted, State.removePoint, State.point_tell]; rfl
        · simp [State.accepted, State.removePoint]
        · simp [State.accepted, State.removePoint]
        · rw [hp]; rfl

theorem State.serviceOutRequest_steps (s : State) (l : Link) (arg : Option Point) :
    AlarmSteps s (s.serviceOutRequest l arg).1 := by
  unfold State.serviceOutRequest
  split
  · exact .rfl' s
  · next p =>
    repeat' split
    · exact .rfl' s
    · exact .rfl' s
    · have hquiet : AlarmSteps s (s.quieted p) :=
        .trans (.modifyPoint (p := p) rfl) (.of_alarms (State.advanceGeneration_alarms _))
      exact hquiet.trans (.move nofun .id)

theorem State.entered_point (s : State) (l : Link) (p : Point) : (s.entered l p).point p = (s.point p).entered := by
  simp [State.entered, State.point_tell, State.point_setPhase, State.appendPoint, PointState.entered, PointState.moved]

theorem State.entered_steps {s : State} (l : Link) {p : Point} (hp : (s.point p).phase = .outOfService) :
    AlarmSteps s (s.entered l p) := by
  refine .rests (p := p) (ph := .normal) (x := (s.point p).unqualified) (timer := none) (fun q hq => ?_) ?_ ?_ ?_
    (by rw [hp]; rfl) rfl
  · simp [State.entered, State.point_tell, State.point_setPhase, State.point_modifyPoint, State.appendPoint, hq]
  · rw [State.entered_point]
    rfl
  · simp [State.entered, State.appendPoint]
  · simp [State.entered, State.appendPoint]

theorem State.serviceInRequest_steps (s : State) (l : Link) (arg : Option Point) :
    AlarmSteps s (s.serviceInRequest l arg).1 := by
  unfold State.serviceInRequest
  split
  · exact .rfl' s
  · next p =>
    split
    · exact .rfl' s
    · next d hd =>
      split
      · exact .rfl' s
      · split
        case isFalse => exact .rfl' s
        case isTrue hp =>
          have hentered := State.entered_steps l hp
          change AlarmSteps s (s.putIn l p d)
          rw [State.putIn_eq]
          split
          · exact hentered
          · exact hentered.trans (State.beginAbnormal_steps (by rw [State.entered_point]; exact hd))

/-! ### Restarts and time -/

theorem Phase.warm_hasEntry (ph : Phase) : ph.warm.hasEntry = false := by cases ph <;> rfl

theorem State.warmRestart_steps (s : State) : AlarmSteps s s.warmRestart := by
  have hpoint (p : Point) : s.warmRestart.point p = (s.point p).warm := by
    rw [State.warmRestart_eq, State.appendBare, State.append_point, State.warmBlocks_point]
  refine .single (.restarts (fun p => ?_) (fun p => ?_) (fun p => ?_) (fun g => ?_) ?_)
  · change (s.warmRestart.point p).phase.hasEntry = false
    rw [hpoint]
    exact (s.point p).phase.warm_hasEntry
  · change (s.warmRestart.point p).shownPhase = (s.warmRestart.point p).phase
    rw [hpoint]
    rfl
  · change (s.warmRestart.point p).shownMark = false
    rw [hpoint]
    rfl
  · change (s.warmRestart.group g).firstOut = none
    rw [State.warmRestart_eq, State.appendBare, State.append_group, State.warmBlocks_group]
  · change s.warmRestart.alarmList = []
    rw [State.warmRestart_eq, State.appendBare, State.append_alarmList]
    rfl

theorem State.cold_steps (s : State) (source : ResetCause) (rate : LineRate) : AlarmSteps s (s.cold source rate) := by
  have hpoint (p : Point) : ((s.cold source rate).point p).alarm = PointState.cold.alarm := by
    rw [State.cold_point]
    rfl
  refine .single (.restarts (fun p => ?_) (fun p => ?_) (fun p => ?_) (fun g => ?_) rfl)
  · exact congrArg (fun x => x.phase.hasEntry) (hpoint p)
  · exact (congrArg PointAlarm.shownPhase (hpoint p)).trans (congrArg PointAlarm.phase (hpoint p)).symm
  · exact congrArg PointAlarm.shownMark (hpoint p)
  · exact congrArg GroupState.firstOut (s.cold_group source rate g)

theorem State.tick_alarms (s : State) : s.tick.alarms = s.alarms := by
  have hpoint (p : Point) : (s.tick.point p).alarm = (s.point p).alarm := by
    have htick : s.tick.point p = s.tickTimers.point p := by rw [State.tick_eq]; rfl
    rw [htick, State.tickTimers_point]
    rfl
  rw [State.alarms, funext hpoint, State.tick_eq]
  rfl

theorem State.idle_steps (s : State) : AlarmSteps s s.idle := by
  unfold State.idle
  split
  · exact .rfl' s
  · split
    · exact .of_alarms s.tick_alarms
    · exact .of_alarms rfl
    · exact .of_alarms rfl

/-! ### Every command -/

/-- The change of a line moves the filter alone (02 R22, R23). -/
theorem execInputLineChange_steps {p : Point} {active : Bool} {s t : State} (h : execInputLineChange p active s = .next t) :
    AlarmSteps s t := by
  cases h
  have hfollow (u : State) (d : PointDef) : AlarmSteps u (u.modifyPoint p (PointState.follow d)) :=
    .modifyPoint (by unfold PointState.follow; split <;> rfl)
  have hline : AlarmSteps s (s.modifyPoint p fun x => { x with line := active }) := .modifyPoint rfl
  dsimp only
  repeat' split
  · exact .rfl' s
  · exact hline
  · exact hline.trans (hfollow _ _)
  · exact hline

theorem execFilteredTransition_steps {p : Point} {s t : State} (h : execFilteredTransition p s = .next t) :
    AlarmSteps s t := by
  cases h
  refine .whenRunning ?_
  split
  · exact .rfl' s
  · next d hdue =>
    have hd := State.filterDue_definition hdue
    have hfilter : AlarmSteps s (s.modifyPoint p fun x =>
        { x with filtered := (s.point p).lineLevel d, filterRun := none }) := .modifyPoint rfl
    dsimp only
    split
    · exact hfilter
    · exact (hfilter.trans (State.qualify_steps (by simpa using hd) _)).finish

theorem execRealertExpiry_steps {p : Point} {s t : State} (h : execRealertExpiry p s = .next t) : AlarmSteps s t := by
  cases h
  refine .whenRunning ?_
  split
  case isTrue hdue =>
    obtain ⟨hp, -⟩ : (s.point p).phase = .acked ∧ (s.point p).realert = some 0 := by simpa [State.realertDue] using hdue
    exact (AlarmSteps.move (fun _ => by rw [hp]; rfl) .id).finish
  case isFalse => exact .rfl' s

theorem execRestoreTimerExpiry_steps {p : Point} {s t : State} (h : execRestoreTimerExpiry p s = .next t) :
    AlarmSteps s t := by
  cases h
  refine .whenRunning ?_
  split
  case isTrue hdue =>
    obtain ⟨hp, -⟩ : (s.point p).phase = .suppressed ∧ (s.point p).restore = some 0 := by
      simpa [State.restoreDue] using hdue
    exact (State.restorePoint_steps _ _ hp).finish
  case isFalse => exact .rfl' s

/-- The end of a frame restarts the part, or touches its chains alone (10 R176, 11 R186). -/
theorem execTransmitEnd_steps {l : Link} {s t : State} (h : execTransmitEnd l s = .next t) : AlarmSteps s t := by
  cases h
  refine .whenRunning ?_
  dsimp only
  split
  · exact .rfl' s
  · refine .trans ?_ (.of_alarms (State.startTx_alarms _ l))
    split
    · exact .trans (.of_alarms (s.freeLine_alarms l)) (State.warmRestart_steps _)
    · exact .of_alarms (s.freeLine_alarms l)

theorem State.ackWalk_steps (s : State) (src : Source) (a : Action) (p : Point) : AlarmSteps s (s.ackWalk src a p) := by
  unfold State.ackWalk
  split
  · exact (s.ackPoint_steps p src).advanceAction src _ _
  · exact (AlarmSteps.rfl' s).advanceAction src _ _

theorem State.resetMember_steps (s : State) (src : Source) (a : Action) (g : Group) (p : Point) :
    AlarmSteps s (s.resetMember src a g p) := by
  unfold State.resetMember
  split
  · exact (s.resetPoint_steps p src).advanceAction src _ _
  · exact (AlarmSteps.rfl' s).advanceAction src _ _

theorem State.clearingStage_steps (s : State) (src : Source) (a : Action) (g : Group) :
    AlarmSteps s (s.clearingStage src a g) := by
  unfold State.clearingStage
  split
  · exact (s.clearFirstOut_steps g src).advanceAction src _ _
  · exact (AlarmSteps.rfl' s).advanceAction src _ _

/-- Whatever a command does to points, groups and entries is a sequence of changes. -/
theorem exec_alarmSteps {c : Instr} {s t : State} (h : exec c s = .next t) : AlarmSteps s t := by
  cases c with
  | coldReset cause rate1 rate0 =>
    rw [exec_coldReset] at h
    cases h
    exact .trans (s.cold_steps (s.coldSource cause) (strapRate rate1 rate0)) (.of_alarms rfl)
  | resetAsserted cause => cases h; exact .of_alarms rfl
  | inputLineChange p active => exact execInputLineChange_steps h
  | filteredTransition p => exact execFilteredTransition_steps h
  | onDelayExpiry p =>
    cases h
    refine .whenRunning ?_
    split
    · exact (State.becomeAbnormal_steps (State.onDelayDue_definition ‹_›)).finish
    · exact .rfl' s
  | offDelayExpiry p =>
    cases h
    refine .whenRunning ?_
    split
    · exact (s.becomeNormal_steps p _).finish
    · exact .rfl' s
  | accumulationExpiry p =>
    cases h
    refine .whenRunning ?_
    split
    · exact (State.becomeAbnormal_steps (State.accumulationDue_definition ‹_›)).finish
    · exact .rfl' s
  | restartRaise p =>
    cases h
    refine .whenRunning ?_
    split
    · split
      · exact (State.becomeAbnormal_steps ‹_›).finish
      · exact .rfl' s
    · exact .rfl' s
  | forgetTimerExpiry p | chatterWindowExpiry p =>
    cases h
    refine .whenRunning ?_
    split
    · exact .modifyPoint rfl
    · exact .rfl' s
  | realertExpiry p => exact execRealertExpiry_steps h
  | restoreTimerExpiry p => exact execRestoreTimerExpiry_steps h
  | ackWalkEvent src =>
    cases h
    refine .whenRunning ?_
    split
    · exact .rfl' s
    · split
      case h_1 => exact (s.ackWalk_steps src _ _).finish
      all_goals exact .rfl' s
  | resetMemberEvent src =>
    cases h
    refine .whenRunning ?_
    split
    · exact .rfl' s
    · split
      case h_1 => exact (s.resetMember_steps src _ _ _).finish
      all_goals exact .rfl' s
  | firstOutClearing src =>
    cases h
    refine .whenRunning ?_
    split
    · exact .rfl' s
    · split
      case h_1 => exact (s.clearingStage_steps src _ _).finish
      all_goals exact .rfl' s
  | panelLineChange line active =>
    cases h
    refine .of_alarms ?_
    dsimp only
    split <;> rfl
  | dayRollover =>
    cases h
    refine .whenRunning (.of_alarms ?_)
    split <;> rfl
  | resetGroupExamine src | patternCycleWrap | panelFilteredTransition line | panelPressBegin | lampTestHostExpiry
  | leaseExpiry | retransmissionExpiry l | interByteTimeout l | confirm l body | unknownKindRequest l =>
    cases h
    refine .whenRunning (.of_alarms ?_)
    repeat' split
    all_goals simp
  | byteArrival l data stopGood =>
    cases h
    refine .whenRunning (.of_alarms ?_)
    dsimp only
    repeat' split
    all_goals simp
  | transmitEnd l => exact execTransmitEnd_steps h
  | hello l => cases h; exact .serve_alarms fun _ u => u.openSession_alarms l
  | bye l => cases h; exact .serve_alarms fun _ u => u.closeSession_alarms l _
  | claim l => cases h; exact .serve_alarms fun _ u => u.claimRequest_alarms l
  | release l => cases h; exact .serve_alarms fun _ u => u.releaseRequest_alarms l
  | restart l => cases h; exact .serve_alarms fun _ u => u.restartRequest_alarms l
  | defineGroup l => cases h; exact .serve fun _ u => u.defineGroupRequest_steps l _
  | undefineGroup l => cases h; exact .serve fun _ u => u.undefineGroupRequest_steps l _
  | definePoint l => cases h; exact .serve fun _ u => u.definePointRequest_steps l _
  | undefinePoint l => cases h; exact .serve fun _ u => u.undefinePointRequest_steps l _
  | setServiceOut l => cases h; exact .serve fun _ u => u.serviceOutRequest_steps l _
  | setServiceIn l => cases h; exact .serve fun _ u => u.serviceInRequest_steps l _
  | restore l => cases h; exact .serve fun _ u => u.restoreRequest_steps l _
  | setTime l => cases h; exact .serve_setTime s l fun q => timeArg q.body
  | ack l => cases h; exact .serve_alarms fun _ u => u.operatorRequest_alarms _ l _ _ _
  | reset l => cases h; exact .serve_alarms fun _ u => u.operatorRequest_alarms _ l _ _ _
  | silence l => cases h; exact .serve_alarms fun _ u => u.silence_alarms _
  | lampTest l => cases h; exact .serve_alarms fun _ u => u.lampTestRequest_alarms l _
  | subscribe l => cases h; exact .serve_alarms fun _ u => u.subscribeRequest_alarms l _
  | unsubscribe l => cases h; exact .serve_alarms fun _ u => u.unsubscribeRequest_alarms l
  | readStatus l => cases h; exact .serve_alarms fun _ _ => rfl
  | readPoint l | readGroup l | readList l =>
    cases h
    exact .serve_alarms fun _ _ => by split <;> rfl
  | readJournal l =>
    cases h
    refine .serve_alarms fun _ u => ?_
    generalize inRange _ _ _ = most, u.journalStart _ = start
    cases most <;> cases start <;> rfl

/-- Whatever a step does to points, groups and entries is a sequence of changes. -/
theorem step_alarmSteps {s t : State} (h : step s = .next t) : AlarmSteps s t := by
  unfold step at h
  split at h
  · next i rest _ => exact .trans (t := { s with pending := rest }) (.of_alarms rfl) (exec_alarmSteps h)
  · cases h
    exact s.idle_steps

/-! ### The statements -/

/-- Settles O5: every change that a step makes keeps entries and phases in agreement. -/
theorem alarmListMirrorsPhases : Obligations.AlarmListMirrorsPhases := by
  intro s t hs h
  rw [State.listSound_iff] at hs ⊢
  exact (step_alarmSteps h).keeps (fun _ _ => AlarmChange.listSound) hs

/-- Settles O7: every change that a step makes keeps the copies of the phases, and, along with the agreement of entries and phases,
the agreement of first-out points, marked entries and copied marks. -/
theorem lampCopiesFollowPhases : Obligations.LampCopiesFollowPhases := by
  intro s t h
  have hsteps := step_alarmSteps h
  refine ⟨fun hc => ?_, fun hl hm => ?_⟩
  · rw [State.copiesFollow_iff] at hc ⊢
    exact hsteps.keeps (fun _ _ => AlarmChange.copiesFollow) hc
  · rw [State.listSound_iff] at hl
    rw [State.marksSound_iff] at hm ⊢
    have hboth := hsteps.keeps (P := fun v => v.ListSound ∧ v.MarksSound)
      (fun _ _ hchange ⟨hlist, hmarks⟩ => ⟨hchange.listSound hlist, hchange.marksSound hlist hmarks⟩) ⟨hl, hm⟩
    exact hboth.2

end Sys2Proof.Machine
end

section
/-! SUPPORT. The output unit's own events: a SILENCE of the latches and a change at the lamp-test sources, each with the record it
calls for (05 R100; 06 R112, R113). -/

namespace Sys2Proof.Machine

/-! ### The end of an event that appends -/

/-- The end of an event whose records are appended: the journal stands, and the chains see offers and transmissions alone. -/
theorem Appends.finish_undisturbed {s u : State} {items : List Item} (h : Appends s u items) (l : Link) :
    Undisturbed (s.chain l) (u.finish.chain l) :=
  (h.deliveryOnly l).undisturbed.trans (u.finish_undisturbed l)

theorem Appends.finish_grows {s u : State} {items : List Item} (h : Appends s u items) : Grows s u.finish items :=
  u.finish_onlyUnits.grows h.grows

/-- Of the state an event begins from, only journal, numbers and chains count. -/
theorem Appends.congr_start {s v u : State} {items : List Item} (h : Appends v u items) (hj : v.journal = s.journal)
    (hn : v.nextSeq = s.nextSeq) (hc : ∀ m, v.chain m = s.chain m) : Appends s u items := by
  obtain ⟨hb, hg, hchain⟩ := h
  simp only [Grows, State.dropped, hj, hn, hc] at hb hg hchain
  exact ⟨hb, hg, hchain⟩

/-! ### SILENCE -/

/-- The record of a SILENCE: SILENCED, naming the latches that were set, if either was (05 R100). -/
def OutputUnit.silencedItems (u : OutputUnit) (src : Source) : List Item :=
  if u.horn || u.tone then [(.silenced u.horn u.tone, src, none, none)] else []

theorem OutputUnit.latchesClear {u : OutputUnit} (hh : u.horn = false) (ht : u.tone = false) :
    { u with horn := false, tone := false } = u := by
  cases u
  cases hh
  cases ht
  rfl

/-- With both latches clear a SILENCE changes nothing (05 R100). -/
theorem State.silence_of_clear {s : State} (src : Source) (hh : s.output.horn = false) (ht : s.output.tone = false) :
    s.silence src = s := by
  simp [State.silence, hh, ht]

theorem State.silence_of_set {s : State} (src : Source) (h : (s.output.horn || s.output.tone) = true) :
    s.silence src =
      (s.modifyOutput fun u => { u with horn := false, tone := false }).append (.silenced s.output.horn s.output.tone) src
        none none := by
  rw [State.silence, if_pos h, State.appendBare]

/-- Both latches are clear after a SILENCE, whatever they were (05 R100). -/
theorem State.silence_output (s : State) (src : Source) :
    (s.silence src).output = { s.output with horn := false, tone := false } := by
  cases h : s.output.horn || s.output.tone with
  | true => simp [State.silence_of_set src h, State.modifyOutput]
  | false =>
    obtain ⟨hh, ht⟩ := Bool.or_eq_false_iff.mp h
    rw [State.silence_of_clear src hh ht, OutputUnit.latchesClear hh ht]

theorem State.silence_appends {s : State} (src : Source) (hb : s.journal.length ≤ Config.journalCapacity) :
    Appends s (s.silence src) (s.output.silencedItems src) := by
  unfold OutputUnit.silencedItems
  cases h : s.output.horn || s.output.tone with
  | true =>
    rw [State.silence_of_set src h, if_pos rfl]
    exact .first (u := s.modifyOutput _) hb rfl rfl (fun _ => State.modifyOutput_chain ..) _ _ _ _
  | false =>
    obtain ⟨hh, ht⟩ := Bool.or_eq_false_iff.mp h
    rw [State.silence_of_clear src hh ht]
    exact .nothing hb rfl rfl fun _ => rfl

/-- A SILENCE touches the latches, the journal and what an append does to the chains. -/
theorem State.silence_frame (s : State) (src : Source) :
    s.silence src =
      { s with output := (s.silence src).output, journal := (s.silence src).journal, nextSeq := (s.silence src).nextSeq,
               chainA := (s.silence src).chainA, chainB := (s.silence src).chainB } := by
  unfold State.silence
  split
  · exact State.eq_of_fields (by simp [State.appendBare])
  · rfl

/-! ### The lamp-test sources -/

/-- The record of a change at the lamp-test sources: none unless lamp test begins or ends (06 R113). -/
def OutputUnit.lampItems (before after : OutputUnit) (src : Source) : List Item :=
  if before.lampTest = after.lampTest then []
  else [(if after.lampTest then .lampTestOn else .lampTestOff, src, none, none)]

theorem State.lampSources_output (s : State) (src : Source) (f : OutputUnit → OutputUnit) :
    (s.lampSources src f).output = f s.output := by
  unfold State.lampSources
  dsimp only
  split
  · rfl
  · simp [State.appendBare, State.modifyOutput]

theorem State.lampSources_appends {s : State} (src : Source) (f : OutputUnit → OutputUnit)
    (hb : s.journal.length ≤ Config.journalCapacity) :
    Appends s (s.lampSources src f) (OutputUnit.lampItems s.output (f s.output) src) := by
  unfold State.lampSources OutputUnit.lampItems
  dsimp only
  have hf : (s.modifyOutput f).output = f s.output := rfl
  rw [hf]
  split
  · exact .nothing hb rfl rfl fun _ => State.modifyOutput_chain ..
  · exact .first (u := s.modifyOutput f) hb rfl rfl (fun _ => State.modifyOutput_chain ..) _ _ _ _

/-- A change at the lamp-test sources touches the output unit, the journal and what an append does to the chains. -/
theorem State.lampSources_frame (s : State) (src : Source) (f : OutputUnit → OutputUnit) :
    s.lampSources src f =
      { s with output := (s.lampSources src f).output, journal := (s.lampSources src f).journal,
               nextSeq := (s.lampSources src f).nextSeq, chainA := (s.lampSources src f).chainA,
               chainB := (s.lampSources src f).chainB } := by
  unfold State.lampSources
  dsimp only
  split
  · rfl
  · exact State.eq_of_fields (by simp [State.appendBare])

/-- While the host timer is idle lamp test is the panel level, so that a change of the level is a change of lamp test; while it
runs lamp test stays active (06 R112, R113). -/
theorem OutputUnit.lampItems_testLevel {u : OutputUnit} {level : Bool} (src : Source) (h : u.testLevel ≠ level) :
    u.lampItems { u with testLevel := level } src =
      if u.hostTimer = none then [(if level then .lampTestOn else .lampTestOff, src, none, none)] else [] := by
  cases ht : u.hostTimer with
  | none => simp [OutputUnit.lampItems, OutputUnit.lampTest, ht, h]
  | some n => simp [OutputUnit.lampItems, OutputUnit.lampTest, ht]

/-- The end of the host timer ends lamp test unless the panel level holds it (06 R113, R115). -/
theorem OutputUnit.lampItems_timerEnds {u : OutputUnit} {n : Nat} (src : Source) (h : u.hostTimer = some n) :
    u.lampItems { u with hostTimer := none } src = if u.testLevel then [] else [(.lampTestOff, src, none, none)] := by
  cases ht : u.testLevel <;> simp [OutputUnit.lampItems, OutputUnit.lampTest, h, ht]

end Sys2Proof.Machine
end

section
/-! SUPPORT. The panel (05 R90 to R92): the filter of a panel line, a press that begins or waits, the levels of the TEST line, and
the statements about them. -/

namespace Sys2Proof.Machine

/-! ### The line and its filter (05 R90) -/

/-- PANEL_LINE_CHANGE outside reset: nothing at a level already held, else the line and the filter's part. -/
theorem State.exec_panelLineChange {s : State} (line : PanelLine) (active : Bool) (hr : s.inReset = false) :
    exec (.panelLineChange line active) s =
      .next (if (s.operator.panelLine line).line = active then s
        else s.modifyOperator fun u =>
          u.setPanelLine line (PanelInput.follow { s.operator.panelLine line with line := active })) := by
  simp [exec, execPanelLineChange, hr]

/-- Back at the filtered level the run is abandoned (05 R90). -/
theorem PanelInput.follow_back {x : PanelInput} {active : Bool} (h : x.filtered = active) :
    PanelInput.follow { x with line := active } = { x with line := active, run := none } :=
  if_pos h.symm

/-- Away from the filtered level a run begins at 0, when none goes on (05 R90). -/
theorem PanelInput.follow_away {x : PanelInput} {active : Bool} (h : x.filtered ≠ active) (hrun : x.run = none) :
    PanelInput.follow { x with line := active } = { x with line := active, run := some 0 } := by
  simp [PanelInput.follow, Ne.symm h, hrun]

/-- Settles O25: a change of the line updates the one panel line, and the filter follows it. -/
theorem panelLineChangeRunsTheFilter : Obligations.PanelLineChangeRunsTheFilter := by
  intro line active s hr
  refine ⟨_, s.exec_panelLineChange line active hr, ?_⟩
  by_cases hl : (s.operator.panelLine line).line = active
  · rw [if_pos hl]
    exact ⟨rfl, fun _ => rfl, fun h => absurd hl h⟩
  · rw [if_neg hl]
    refine ⟨rfl, fun h => absurd h hl, fun _ => ⟨fun h => ?_, fun h hrun => ?_⟩⟩
    · rw [PanelInput.follow_back h]
      rfl
    · rw [PanelInput.follow_away h hrun]
      rfl

/-! ### The filtered transition (05 R90, R91) -/

@[simp] theorem OperatorUnit.setPanelLine_slotPanel (u : OperatorUnit) (line : PanelLine) (x : PanelInput) :
    (u.setPanelLine line x).slotPanel = u.slotPanel := by
  cases line <;> rfl

@[simp] theorem OperatorUnit.setPanelLine_waiting (u : OperatorUnit) (line : PanelLine) (x : PanelInput) :
    (u.setPanelLine line x).waiting = u.waiting := by
  cases line <;> rfl

/-- The operator unit with the filtered level of a panel line at the level of its pin (05 R90). -/
def OperatorUnit.settleLine (u : OperatorUnit) (line : PanelLine) : OperatorUnit :=
  u.setPanelLine line (u.panelLine line).settled

/-- The filtered transition of a panel line, once its run has reached 20 ms. -/
theorem State.exec_panelFilteredTransition {s : State} {line : PanelLine} {e : Nat} (hr : s.inReset = false)
    (hrun : (s.operator.panelLine line).run = some e) (he : 20 ≤ e) :
    exec (.panelFilteredTransition line) s =
      .next ((s.modifyOperator fun u => u.settleLine line).takePanelTransition line
        (s.operator.panelLine line).line).finish := by
  have hdue : s.panelDue line = true := by simp [State.panelDue, hrun, Config.panelFilterMs, he]
  simp only [exec, execPanelFilteredTransition, State.whenRunning, hr, hdue, Bool.false_eq_true, if_false, if_true]
  rfl

/-- The line of a press takes its pin's level as its filtered level: active at a press, inactive at its release (05 R90, R91). -/
structure LineSettles (s : State) (line : PanelLine) (x : Press) (active : Bool) : Prop where
  running : s.inReset = false
  press : linePress line = some x
  due : ∃ e, (s.operator.panelLine line).run = some e ∧ 20 ≤ e
  level : (s.operator.panelLine line).line = active

theorem LineSettles.exec_filtered {s : State} {line : PanelLine} {x : Press} {active : Bool} (h : LineSettles s line x active) :
    exec (.panelFilteredTransition line) s =
      .next (if active then (s.modifyOperator fun u => u.settleLine line).takePress x
        else s.modifyOperator fun u => u.settleLine line).finish := by
  obtain ⟨e, hrun, he⟩ := h.due
  rw [State.exec_panelFilteredTransition h.running hrun he, State.takePanelTransition, h.press, h.level]

/-- A release has no effect beyond the filtered level (05 R91). -/
theorem LineSettles.released {s : State} {line : PanelLine} {x : Press} (h : LineSettles s line x false) :
    exec (.panelFilteredTransition line) s = .next (s.modifyOperator fun u => u.settleLine line).finish :=
  h.exec_filtered

/-- A press is begun at once when the panel slot is empty and no press waits (05 R91). -/
theorem LineSettles.begins {s : State} {line : PanelLine} {x : Press} (h : LineSettles s line x true)
    (hslot : s.operator.slotPanel = none) (hwait : s.operator.waiting = []) :
    exec (.panelFilteredTransition line) s =
      .next ((s.modifyOperator fun u => u.settleLine line).beginPress x).finish := by
  rw [h.exec_filtered, if_pos rfl, State.takePress]
  simp [State.modifyOperator, OperatorUnit.settleLine, hslot, hwait]

/-- While an action stands in the panel slot or a press waits, a press joins the waiting list (05 R91, R92). -/
theorem LineSettles.waits {s : State} {line : PanelLine} {x : Press} (h : LineSettles s line x true)
    (hbusy : s.operator.slotPanel ≠ none ∨ s.operator.waiting ≠ []) :
    exec (.panelFilteredTransition line) s =
      .next (s.modifyOperator fun u => { u.settleLine line with waiting := joinPress u.waiting x }).finish := by
  have hfull : (s.operator.slotPanel.isNone && s.operator.waiting.isEmpty) = false := by
    rcases hbusy with h | h <;> simp [h]
  rw [h.exec_filtered, if_pos rfl, State.takePress]
  simp [State.modifyOperator, OperatorUnit.settleLine, hfull]

/-! ### What an event of the panel comes to -/

/-- An event that changes the operator unit alone. -/
theorem exec_operatorEvent {c : Instr} {s : State} {f : OperatorUnit → OperatorUnit}
    (h : exec c s = .next (s.modifyOperator f).finish) :
    ∃ t, exec c s = .next t ∧ (∀ l, Undisturbed (s.chain l) (t.chain l)) ∧
      t = { s with operator := f s.operator, chainA := t.chainA, chainB := t.chainB } :=
  ⟨_, h, fun l => .trans (.of_eq (s.modifyOperator_chain f l)) (State.finish_undisturbed _ l), State.finish_frame _⟩

/-- An event that changes the operator unit and takes a SILENCE of the panel (05 R100). -/
theorem exec_silenceEvent {c : Instr} {s : State} {f : OperatorUnit → OperatorUnit}
    (hb : s.journal.length ≤ Config.journalCapacity)
    (h : exec c s = .next ((s.modifyOperator f).beginPress .silence).finish) :
    ∃ t, exec c s = .next t ∧ (∀ l, Undisturbed (s.chain l) (t.chain l)) ∧
      t = { s with operator := f s.operator, output := { s.output with horn := false, tone := false },
                   journal := t.journal, nextSeq := t.nextSeq, chainA := t.chainA, chainB := t.chainB } ∧
      Grows s t (s.output.silencedItems .panel) := by
  have happ : Appends s ((s.modifyOperator f).silence .panel) (s.output.silencedItems .panel) :=
    (State.silence_appends (s := s.modifyOperator f) .panel hb).congr_start rfl rfl (s.modifyOperator_chain f)
  refine ⟨_, h, happ.finish_undisturbed, ?_, happ.finish_grows⟩
  rw [State.finish_frame, State.beginPress, State.silence_frame, State.silence_output]
  rfl

/-- The action that a press of ACK or RESET begins, of scope all (05 R91, Table 5-1). -/
def pressAction (x : Press) : Action :=
  { kind := if x = .ack then .ack else .reset, source := .panel, scope := .all,
    pos := if x = .ack then .ackAt 0 else .examine 0, pointsChanged := 0, marksCleared := 0, tag := none }

theorem State.beginPress_action (s : State) {x : Press} (hx : x ≠ .silence) :
    s.beginPress x = s.modifyOperator fun u => { u with slotPanel := some (pressAction x) } := by
  cases x with
  | ack => rfl
  | reset => rfl
  | silence => exact absurd rfl hx

/-! ### The statements about presses -/

/-- Settles O26: the settled line hands its press over, and the press begins or waits. -/
theorem pressBeginsOrWaits : Obligations.PressBeginsOrWaits := by
  intro isReset s e hr line press action x settled hrun he
  have hsettles (active : Bool) (hl : x.line = active) : LineSettles s line press active :=
    ⟨hr, by cases isReset <;> rfl, ⟨e, hrun, he⟩, hl⟩
  have haction : pressAction press = action := by cases isReset <;> rfl
  cases hl : x.line with
  | false =>
    obtain ⟨t, ht, hchains, hframe⟩ := exec_operatorEvent (hsettles false hl).released
    refine ⟨t, ht, hchains, ?_, fun _ => by rw [hframe]; rfl, nofun, nofun⟩
    rw [hframe]
  | true =>
    by_cases hfree : s.operator.slotPanel = none ∧ s.operator.waiting = []
    · have hexec := (hsettles true hl).begins hfree.1 hfree.2
      rw [State.beginPress_action _ (by cases isReset <;> decide), haction] at hexec
      obtain ⟨t, ht, hchains, hframe⟩ :=
        exec_operatorEvent (f := fun u => { u.settleLine line with slotPanel := some action }) hexec
      have hop := congrArg State.operator hframe
      exact ⟨t, ht, hchains, by rw [hop]; exact hframe, nofun, fun _ _ _ => hop, fun _ h => absurd hfree (not_and_or.mpr h)⟩
    · obtain ⟨t, ht, hchains, hframe⟩ := exec_operatorEvent ((hsettles true hl).waits (not_and_or.mp hfree))
      have hop := congrArg State.operator hframe
      exact ⟨t, ht, hchains, by rw [hop]; exact hframe, nofun, fun _ hs hw => absurd ⟨hs, hw⟩ hfree, fun _ _ => hop⟩

/-- PANEL_PRESS_BEGIN outside reset with the panel slot empty: the press at the head is begun (05 R92). -/
theorem State.exec_panelPressBegin {s : State} {x : Press} {rest : List Press} (hr : s.inReset = false)
    (hslot : s.operator.slotPanel = none) (hwait : s.operator.waiting = x :: rest) :
    exec .panelPressBegin s = .next ((s.modifyOperator fun u => { u with waiting := rest }).beginPress x).finish := by
  simp [exec, execPanelPressBegin, State.whenRunning, hr, hslot, hwait]

/-- Settles O28: the press at the head of the list is begun. -/
theorem waitingPressBegins : Obligations.WaitingPressBegins := by
  intro s x rest hr hb hslot hwait
  have hexec := State.exec_panelPressBegin hr hslot hwait
  by_cases hx : x = .silence
  · subst hx
    obtain ⟨t, ht, hchains, hframe, hgrows⟩ := exec_silenceEvent hb hexec
    have hop := congrArg State.operator hframe
    have hout := congrArg State.output hframe
    exact ⟨t, ht, hchains, by rw [hop, hout]; exact hframe, fun _ => ⟨hop, hout, hgrows⟩, fun h => absurd rfl h⟩
  · rw [State.beginPress_action _ hx] at hexec
    obtain ⟨t, ht, hchains, hframe⟩ :=
      exec_operatorEvent (f := fun u => { u with waiting := rest, slotPanel := some (pressAction x) }) hexec
    have hop := congrArg State.operator hframe
    have hout := congrArg State.output hframe
    have hjournal := congrArg State.journal hframe
    have hnext := congrArg State.nextSeq hframe
    exact ⟨t, ht, hchains, by rw [hop, hout, hjournal, hnext]; exact hframe, fun h => absurd h hx,
      fun _ => ⟨hop, hout, .nothing hb hjournal hnext⟩⟩

/-! ### The lamp-test sources -/

/-- An event that changes the operator unit and then the lamp-test sources (06 R112, R113). -/
theorem exec_lampEvent {c : Instr} {s : State} {f : OperatorUnit → OperatorUnit} {src : Source}
    {g : OutputUnit → OutputUnit} (hb : s.journal.length ≤ Config.journalCapacity)
    (h : exec c s = .next ((s.modifyOperator f).lampSources src g).finish) :
    ∃ t, exec c s = .next t ∧ (∀ l, Undisturbed (s.chain l) (t.chain l)) ∧
      t = { s with operator := f s.operator, output := g s.output, journal := t.journal, nextSeq := t.nextSeq,
                   chainA := t.chainA, chainB := t.chainB } ∧
      Grows s t (s.output.lampItems (g s.output) src) := by
  have happ : Appends s ((s.modifyOperator f).lampSources src g) (s.output.lampItems (g s.output) src) :=
    (State.lampSources_appends (s := s.modifyOperator f) src g hb).congr_start rfl rfl (s.modifyOperator_chain f)
  refine ⟨_, h, happ.finish_undisturbed, ?_, happ.finish_grows⟩
  rw [State.finish_frame, State.lampSources_frame, State.lampSources_output]
  rfl

/-- LAMP_TEST_HOST_EXPIRY in the host timer's last millisecond (06 R115; log 6). -/
theorem State.exec_lampTestHostExpiry {s : State} {n : Nat} (hr : s.inReset = false) (hn : s.output.hostTimer = some n)
    (hle : n ≤ 1) :
    exec .lampTestHostExpiry s = .next (s.lampSources .part fun u => { u with hostTimer := none }).finish := by
  simp [exec, execLampTestHostExpiry, State.whenRunning, hr, OutputUnit.hostDue, hn, hle]

/-- Settles O27: both events change the lamp-test sources, and the record follows from what they were. -/
theorem lampTestSourcesAppendTheirRecords : Obligations.LampTestSourcesAppendTheirRecords := by
  intro s hr hb
  refine ⟨fun e hrun he hlevel => ?_, fun n hn hle => ?_⟩
  · have hexec : exec (.panelFilteredTransition .test) s =
        .next ((s.modifyOperator fun u => u.settleLine .test).lampSources .panel fun u =>
          { u with testLevel := s.operator.test.line }).finish := State.exec_panelFilteredTransition hr hrun he
    obtain ⟨t, ht, hchains, hframe, hgrows⟩ := exec_lampEvent hb hexec
    have hop := congrArg State.operator hframe
    have hout := congrArg State.output hframe
    rw [OutputUnit.lampItems_testLevel .panel hlevel] at hgrows
    exact ⟨t, ht, hchains, by rw [hop, hout]; exact hframe, hop, hout, hgrows⟩
  · obtain ⟨t, ht, hchains, hframe, hgrows⟩ := exec_lampEvent (f := id) hb (State.exec_lampTestHostExpiry hr hn hle)
    have hout := congrArg State.output hframe
    rw [OutputUnit.lampItems_timerEnds .part hn] at hgrows
    exact ⟨t, ht, hchains, by rw [hout]; exact hframe, hout, hgrows⟩

/-! ### SILENCE -/

/-- A SILENCE request finds the latches as they stood before its lease renewal (05 R100, 11 R182). -/
theorem State.renewLease_silenceAnswer (s : State) (l : Link) : (s.renewLease l).silenceAnswer = s.silenceAnswer := by
  simp [State.silenceAnswer]

/-- A SILENCE request with a latch set clears both and is answered OK with the latches it cleared (05 R100). -/
theorem Accepts.silences {s : State} {l : Link} {tag : Byte} (h : Accepts s l .silence tag [])
    (hset : (s.output.horn || s.output.tone) = true) :
    ∃ t, exec (.silence l) s = .next t ∧
      t = { s with session := s.sessionAfter l, output := { s.output with horn := false, tone := false },
                   journal := t.journal, nextSeq := t.nextSeq, chainA := t.chainA, chainB := t.chainB } ∧
      Acts s t l .silence tag [latchCode s.output.horn s.output.tone]
        [(.silenced s.output.horn s.output.tone, linkSource l, none, none)] := by
  have happ : Appends s ((s.renewLease l).silence (linkSource l))
      [(.silenced s.output.horn s.output.tone, linkSource l, none, none)] := by
    rw [State.silence_of_set _ (by simpa using hset)]
    simp only [State.renewLease_output]
    exact .first h.journal (by simp) (by simp) (by simp) _ _ _ _
  obtain ⟨t, ht, hframe, hacts⟩ := h.acts (c := .silence l) rfl rfl rfl
    (by rw [State.renewFor, if_neg (by decide), State.renewLease_silenceAnswer, State.silenceAnswer, if_pos hset]) happ
  refine ⟨t, ht, ?_, hacts⟩
  rw [hframe, State.silence_frame, State.silence_output, State.renewLease_eq]

/-- With both latches clear a SILENCE request is answered NOTHING (05 R100). -/
theorem Accepts.silenceTurnedAway {s : State} {l : Link} {tag : Byte} (h : Accepts s l .silence tag [])
    (hh : s.output.horn = false) (ht : s.output.tone = false) : TurnsAway s (.silence l) l .silence tag .nothing [0] := by
  refine h.turnsAway rfl rfl (by decide) (by decide) ?_
  rw [State.silence_of_clear _ (by simpa using hh) (by simpa using ht), State.renewLease_silenceAnswer]
  rw [State.silenceAnswer, hh, ht]
  rfl

theorem OperatorUnit.settleLine_silence {u : OperatorUnit} {active : Bool} (h : u.silence.line = active) :
    u.settleLine .silence = { u with silence := { line := active, filtered := active, run := none } } := by
  subst h
  rfl

/-- Settles O34: a request of SILENCE, a press of its line and the release of its line. -/
theorem silenceClearsTheLatches : Obligations.SilenceClearsTheLatches := by
  refine ⟨fun l tag s h => ⟨fun hset => h.silences (by simpa using hset), h.silenceTurnedAway⟩,
    fun s e hr hb hrun he hline => ?_, fun s e hr hrun he hline => ?_⟩
  · have hsettles : LineSettles s .silence .silence true := ⟨hr, rfl, ⟨e, hrun, he⟩, hline⟩
    by_cases hfree : s.operator.slotPanel = none ∧ s.operator.waiting = []
    · obtain ⟨t, ht, hchains, hframe, hgrows⟩ := exec_silenceEvent hb (hsettles.begins hfree.1 hfree.2)
      rw [OperatorUnit.settleLine_silence hline] at hframe
      exact ⟨t, ht, hchains, fun _ _ => ⟨hframe, hgrows⟩, fun h => absurd hfree (not_and_or.mpr h)⟩
    · obtain ⟨t, ht, hchains, hframe⟩ := exec_operatorEvent (hsettles.waits (not_and_or.mp hfree))
      rw [OperatorUnit.settleLine_silence hline] at hframe
      exact ⟨t, ht, hchains, fun hs hw => absurd ⟨hs, hw⟩ hfree, fun _ => hframe⟩
  · have hsettles : LineSettles s .silence .silence false := ⟨hr, rfl, ⟨e, hrun, he⟩, hline⟩
    obtain ⟨t, ht, hchains, hframe⟩ := exec_operatorEvent hsettles.released
    rw [OperatorUnit.settleLine_silence hline] at hframe
    exact ⟨t, ht, hchains, hframe⟩

end Sys2Proof.Machine
end

section
/-! SUPPORT. The ACK and RESET requests (05 R93, R94): the scope a body names, the checks of Tables 5-2 and 5-3, and the action that
begins. -/

namespace Sys2Proof.Machine

/-! ### The scope a body names (05 Table 5-2) -/

/-- The scope the body of an ACK or a RESET names, none for BAD_ARGUMENT. -/
def requestScope (isReset : Bool) (body : List Byte) : Option Scope := if isReset then resetScope body else ackScope body

theorem requestScope_all (isReset : Bool) (value : Byte) : requestScope isReset [2, value] = some .all := by
  cases isReset <;> rfl

theorem requestScope_group (isReset : Bool) {value : Byte} {g : Group} (h : value.toNat = g.val) :
    requestScope isReset [1, value] = some (.group g) := by
  have hg : (asGroup value.toNat).map Scope.group = some (.group g) := by rw [asGroup_val h]; rfl
  cases isReset <;> exact hg

theorem requestScope_point {value : Byte} {p : Point} (h : value.toNat = p.val) :
    requestScope false [0, value] = some (.point p) := by
  have hp : (asPoint value.toNat).map Scope.point = some (.point p) := by rw [asPoint_val h]; rfl
  exact hp

/-- A body names no scope by an unassigned scope byte, by a number out of range, or, in a RESET, by scope point (05 Table 5-2). -/
theorem requestScope_none {isReset : Bool} {scope value : Byte}
    (h : 2 < scope.toNat ∨ (scope = 1 ∧ 8 ≤ value.toNat) ∨ (scope = 0 ∧ (isReset = true ∨ 48 ≤ value.toNat))) :
    requestScope isReset [scope, value] = none := by
  rcases h with hlarge | ⟨rfl, hg⟩ | ⟨rfl, hp⟩
  · obtain ⟨n, hn⟩ : ∃ n, scope.toNat = n + 3 := ⟨scope.toNat - 3, by omega⟩
    cases isReset <;> simp [requestScope, resetScope, ackScope, byteAt, hn]
  · have hnone : (asGroup value.toNat).map Scope.group = none := by rw [asGroup_none hg]; rfl
    cases isReset <;> exact hnone
  · cases isReset with
    | true => rfl
    | false =>
      have hnone : (asPoint value.toNat).map Scope.point = none := by rw [asPoint_none (hp.resolve_left nofun)]; rfl
      exact hnone

/-! ### The checks 5 to 8 (05 Table 5-3) -/

/-- The first failed check of the scope a body names, BAD_ARGUMENT where it names none. -/
def State.scopeRefusal (s : State) (src : Source) : Option Scope → Option Result
  | none => some .badArgument
  | some scope => s.ackRefusal src scope

theorem State.ackRefusal_group (s : State) (src : Source) (g : Group) :
    s.ackRefusal src (.group g) =
      if (s.group g).definition = none then some .notDefined
      else if s.groupPermits g src then none else some .notPermitted := by
  cases hd : (s.group g).definition <;> simp [State.ackRefusal, State.groupPermits, hd]

theorem State.ackRefusal_undefined {s : State} (src : Source) {p : Point} (hd : (s.point p).definition = none) :
    s.ackRefusal src (.point p) = some .notDefined := by
  simp [State.ackRefusal, hd]

theorem State.ackRefusal_point {s : State} (src : Source) {p : Point} {d : PointDef} (hd : (s.point p).definition = some d) :
    s.ackRefusal src (.point p) =
      if (s.point p).phase = .outOfService ∨ (s.point p).phase = .suppressed then some .wrongState
      else if s.groupPermits d.group src then none else some .notPermitted := by
  simp [State.ackRefusal, hd]

theorem State.renewLease_groupPermits (s : State) (l : Link) (g : Group) (src : Source) :
    (s.renewLease l).groupPermits g src = s.groupPermits g src := by
  simp [State.groupPermits]

/-- The checks read the tables of points and groups alone, and so not the lease that the request has renewed (11 R182). -/
theorem State.renewLease_scopeRefusal (s : State) (l : Link) (src : Source) (scope : Option Scope) :
    (s.renewLease l).scopeRefusal src scope = s.scopeRefusal src scope := by
  rcases scope with _ | p | g | _
  · rfl
  · simp only [State.scopeRefusal]
    cases hd : (s.point p).definition with
    | none => rw [State.ackRefusal_undefined src hd, State.ackRefusal_undefined src (by simpa using hd)]
    | some d =>
      rw [State.ackRefusal_point src hd, State.ackRefusal_point src (by simpa using hd), State.renewLease_groupPermits,
        State.renewLease_point]
  · simp only [State.scopeRefusal]
    rw [State.ackRefusal_group, State.ackRefusal_group, State.renewLease_groupPermits, State.renewLease_group]
  · rfl

theorem State.operatorRequest_refused {s : State} {l : Link} {scope : Option Scope} {r : Result} (kind : ActionKind)
    (tag : Byte) (zeros : List Byte) (h : s.scopeRefusal (linkSource l) scope = some r) :
    s.operatorRequest kind l tag zeros scope = (s, .reply r zeros) := by
  cases scope with
  | none => cases h; rfl
  | some scope => simp only [State.operatorRequest, show s.ackRefusal (linkSource l) scope = some r from h]

theorem State.operatorRequest_begins {s : State} {l : Link} {scope : Scope} (kind : ActionKind) (tag : Byte)
    (zeros : List Byte) (h : s.ackRefusal (linkSource l) scope = none) :
    s.operatorRequest kind l tag zeros (some scope) =
      (s.beginAction (newAction kind (linkSource l) scope (some tag)), .later) := by
  simp only [State.operatorRequest, h]

/-! ### A request of either kind -/

/-- The kind of the request, by whether it is a RESET. -/
def operatorKind (isReset : Bool) : ReqKind := if isReset then .reset else .ack

def operatorCommand (isReset : Bool) (l : Link) : Instr := if isReset then .reset l else .ack l

/-- The counts of 0 of a refusal (12 Table 12-5). -/
def operatorZeros (isReset : Bool) : List Byte := if isReset then [0, 0] else [0]

theorem exec_operatorCommand (isReset : Bool) (l : Link) (s : State) :
    exec (operatorCommand isReset l) s =
      .next (s.serve l (operatorKind isReset) anyRequest fun q s =>
        s.operatorRequest (if isReset then .reset else .ack) l q.tag (operatorZeros isReset) (requestScope isReset q.body)) := by
  cases isReset <;> rfl

theorem operatorKind_ne_hello (isReset : Bool) : operatorKind isReset ≠ .hello := by cases isReset <;> decide

/-- A request whose checks pass begins its action and stands in progress (05 R88, R94; 10 R174). -/
theorem Accepts.actionBegins {isReset : Bool} {l : Link} {tag : Byte} {body : List Byte} {s : State} {scope : Scope}
    (h : Accepts s l (operatorKind isReset) tag body) (hscope : requestScope isReset body = some scope)
    (hpass : s.ackRefusal (linkSource l) scope = none) :
    exec (operatorCommand isReset l) s = .next (({ s with
      session := s.sessionAfter l,
      operator := s.operator.setSlot (linkSource l)
        (some (newAction (if isReset then .reset else .ack) (linkSource l) scope (some tag))) } : State).setChain l
          { s.chain l with places := replaceFirst Place.begin (s.chain l).places }) := by
  have hrenew := s.renewFor_eq l (operatorKind_ne_hello isReset)
  have hpass' : (s.renewFor l (operatorKind isReset)).ackRefusal (linkSource l) scope = none := by
    rw [State.renewFor, if_neg (operatorKind_ne_hello isReset)]
    exact (s.renewLease_scopeRefusal l _ (some scope)).trans hpass
  rw [exec_operatorCommand, h.serve anyRequest _ rfl]
  dsimp only
  rw [hscope, State.operatorRequest_begins _ tag _ hpass', hrenew]
  cases l <;> rfl

/-- A request that fails a check is refused with counts of 0 (05 R94). -/
theorem Accepts.actionRefused {isReset : Bool} {l : Link} {tag : Byte} {body : List Byte} {s : State} {r : Result}
    (h : Accepts s l (operatorKind isReset) tag body)
    (hfail : s.scopeRefusal (linkSource l) (requestScope isReset body) = some r) (hr : r ≠ .ok) :
    TurnsAway s (operatorCommand isReset l) l (operatorKind isReset) tag r (operatorZeros isReset) :=
  h.turnsAway (exec_operatorCommand isReset l s) rfl hr (operatorKind_ne_hello isReset)
    (State.operatorRequest_refused _ _ _ ((s.renewLease_scopeRefusal l _ _).trans hfail))

/-- Settles O33: the scope the body names is checked, and the action begins or is refused by its first failed check. -/
theorem operatorRequestsBeginOrAreRefused : Obligations.OperatorRequestsBeginOrAreRefused := by
  intro isReset l tag scopeByte valueByte s kind command zeros begins h
  simp only [Permitted.iff_groupPermits]
  refine ⟨fun ha => ?_, fun g ha hg hperm => ?_, fun p d hack ha hp hd hout hsup hperm => ?_, fun r hr => ?_⟩
  · subst ha
    refine (Accepts.actionBegins h (requestScope_all isReset valueByte) rfl).trans ?_
    cases isReset <;> rfl
  · subst ha
    have hdef : (s.group g).definition ≠ none := fun hd => by simp [State.groupPermits, hd] at hperm
    have hpass : s.ackRefusal (linkSource l) (.group g) = none := by rw [State.ackRefusal_group, if_neg hdef, if_pos hperm]
    refine (Accepts.actionBegins h (requestScope_group isReset hg) hpass).trans ?_
    cases isReset <;> rfl
  · subst ha hack
    have hpass : s.ackRefusal (linkSource l) (.point p) = none := by
      rw [State.ackRefusal_point _ hd, if_neg (not_or.mpr ⟨hout, hsup⟩), if_pos hperm]
    exact Accepts.actionBegins (isReset := false) h (requestScope_point hp) hpass
  · have hok : r ≠ .ok := by rcases hr with ⟨rfl, -⟩ | ⟨rfl, -⟩ | ⟨rfl, -⟩ | ⟨rfl, -⟩ <;> decide
    refine Accepts.actionRefused h ?_ hok
    rcases hr with ⟨rfl, hbad⟩ | ⟨rfl, ⟨g, rfl, hg, hd⟩ | ⟨p, rfl, rfl, hp, hd⟩⟩ | ⟨rfl, p, rfl, rfl, hp, hd, hphase⟩ |
      ⟨rfl, ⟨g, rfl, hg, hd, hperm⟩ | ⟨p, d, rfl, rfl, hp, hd, hout, hsup, hperm⟩⟩
    · rw [requestScope_none hbad, State.scopeRefusal]
    · rw [requestScope_group _ hg, State.scopeRefusal, State.ackRefusal_group, if_pos hd]
    · rw [requestScope_point hp, State.scopeRefusal, State.ackRefusal_undefined _ hd]
    · obtain ⟨d, hd⟩ := Option.ne_none_iff_exists'.mp hd
      rw [requestScope_point hp, State.scopeRefusal, State.ackRefusal_point _ hd, if_pos hphase]
    · rw [requestScope_group _ hg, State.scopeRefusal, State.ackRefusal_group, if_neg hd, if_neg hperm]
    · rw [requestScope_point hp, State.scopeRefusal, State.ackRefusal_point _ hd, if_neg (not_or.mpr ⟨hout, hsup⟩),
        if_neg hperm]

end Sys2Proof.Machine
end

section
/-! SUPPORT. LAMP TEST (06 R114): the host timer it sets or stops, the record the change calls for, and the reply. -/

namespace Sys2Proof.Machine

/-! ### The lamp-test sources -/

/-- A start of the host timer begins lamp test unless a source holds it already (06 R112, R113). -/
theorem OutputUnit.lampItems_timerStarts (u : OutputUnit) (src : Source) (n : Nat) :
    u.lampItems { u with hostTimer := some n } src =
      if u.testLevel = false ∧ u.hostTimer = none then [(.lampTestOn, src, none, none)] else [] := by
  cases hl : u.testLevel with
  | true => simp [OutputUnit.lampItems, OutputUnit.lampTest, hl]
  | false => cases hh : u.hostTimer <;> simp [OutputUnit.lampItems, OutputUnit.lampTest, hl, hh]

/-- A change that leaves the output unit as it stands is no event of the lamp-test sources (06 R113). -/
theorem State.lampSources_unchanged {s : State} (src : Source) {f : OutputUnit → OutputUnit} (h : f s.output = s.output) :
    s.lampSources src f = s := by
  simp [State.lampSources, State.modifyOutput, h]

/-! ### The request -/

/-- The host timer that LAMP TEST asks for: stopped by 0, else running for that many seconds (06 R114). -/
def askedTimer (seconds : Nat) : Option Nat := if seconds = 0 then none else some (seconds * 1000)

theorem State.lampTestRequest_tooLong (s : State) (l : Link) {seconds : Nat} (h : 60 < seconds) :
    s.lampTestRequest l seconds = (s, .reply .badArgument []) :=
  if_pos h

/-- A request within 60 s changes the host timer; the reply shows the output unit as that leaves it (06 R114). -/
theorem State.lampTestRequest_within (s : State) (l : Link) {seconds : Nat} (hle : seconds ≤ 60) :
    s.lampTestRequest l seconds =
      (s.lampSources (linkSource l) fun u => { u with hostTimer := askedTimer seconds },
        .reply (if seconds = 0 ∧ s.output.hostTimer = none then .nothing else .ok)
          (boolCode (s.output.testLevel || (askedTimer seconds).isSome) :: be4 ((askedTimer seconds).getD 0))) := by
  rw [State.lampTestRequest, if_neg (Nat.not_lt.mpr hle)]
  dsimp only
  rw [State.lampSources_output]
  rfl

theorem State.lampTestRequest_sets (s : State) (l : Link) {seconds : Nat} (hle : seconds ≤ 60)
    (h : seconds = 0 → s.output.hostTimer ≠ none) :
    s.lampTestRequest l seconds =
      (s.lampSources (linkSource l) fun u => { u with hostTimer := askedTimer seconds },
        .reply .ok (boolCode (s.output.testLevel || (askedTimer seconds).isSome) ::
          be4 ((askedTimer seconds).getD 0))) := by
  rw [State.lampTestRequest_within s l hle, if_neg (not_and.mpr h)]

/-- A stop of an idle host timer changes nothing and is answered NOTHING (06 R114). -/
theorem State.lampTestRequest_idle {s : State} (l : Link) (h : s.output.hostTimer = none) :
    s.lampTestRequest l 0 = (s, .reply .nothing (boolCode s.output.testLevel :: be4 0)) := by
  have hstays : (s.lampSources (linkSource l) fun u => { u with hostTimer := askedTimer 0 }) = s :=
    State.lampSources_unchanged _ (by simp [askedTimer, ← h])
  rw [State.lampTestRequest_within s l (Nat.zero_le 60), hstays, if_pos ⟨rfl, h⟩]
  simp [askedTimer]

/-! ### The command -/

/-- A LAMP TEST that is acted on leaves the timer it asks for, appends the record of the change, and replies with lamp test and the
time remaining (06 R113, R114). -/
theorem Accepts.setsHostTimer {l : Link} {tag seconds : Byte} {s : State} (h : Accepts s l .lampTest tag [seconds])
    (hle : seconds.toNat ≤ 60) (hstop : seconds.toNat = 0 → s.output.hostTimer ≠ none) :
    ∃ t, exec (.lampTest l) s = .next t ∧
      t = { s with session := s.sessionAfter l, output := { s.output with hostTimer := askedTimer seconds.toNat },
                   journal := t.journal, nextSeq := t.nextSeq, chainA := t.chainA, chainB := t.chainB } ∧
      Acts s t l .lampTest tag
        (boolCode (s.output.testLevel || (askedTimer seconds.toNat).isSome) :: be4 ((askedTimer seconds.toNat).getD 0))
        (s.output.lampItems { s.output with hostTimer := askedTimer seconds.toNat } (linkSource l)) := by
  have hrenew : s.renewFor l .lampTest = { s with session := s.sessionAfter l } := s.renewFor_eq l (by decide)
  have happ : Appends s ((s.renewFor l .lampTest).lampSources (linkSource l) fun u =>
        { u with hostTimer := askedTimer seconds.toNat })
      (s.output.lampItems { s.output with hostTimer := askedTimer seconds.toNat } (linkSource l)) := by
    rw [hrenew]
    exact (State.lampSources_appends (s := { s with session := s.sessionAfter l }) _ _ h.journal).congr_start rfl rfl
      fun m => State.chain_congr rfl rfl m
  have hanswer := (s.renewFor l .lampTest).lampTestRequest_sets l hle (by rw [hrenew]; exact hstop)
  rw [show (s.renewFor l .lampTest).output = s.output by rw [hrenew]] at hanswer
  obtain ⟨t, ht, hframe, hacts⟩ := h.acts (c := .lampTest l) rfl rfl rfl hanswer happ
  refine ⟨t, ht, ?_, hacts⟩
  rw [hframe, State.lampSources_frame, State.lampSources_output, hrenew]

/-- Settles O35: the request asks for a timer within 60 s, and is turned away beyond it or where there is nothing to stop. -/
theorem lampTestRunsTheHostTimer : Obligations.LampTestRunsTheHostTimer := by
  intro l tag seconds s h sets
  refine ⟨fun hlong => ?_, fun hpos hle => ?_, fun hzero hruns => ?_, fun hzero hidle => ?_⟩
  · exact h.turnsAway rfl rfl (by decide) (by decide) (State.lampTestRequest_tooLong _ l hlong)
  · have hne : seconds.toNat ≠ 0 := Nat.one_le_iff_ne_zero.mp hpos
    have hasked : askedTimer seconds.toNat = some (seconds.toNat * 1000) := if_neg hne
    have hsets := h.setsHostTimer hle fun h0 => absurd h0 hne
    rw [hasked, OutputUnit.lampItems_timerStarts, Option.isSome_some, Bool.or_true] at hsets
    exact hsets
  · subst hzero
    obtain ⟨n, hn⟩ := Option.ne_none_iff_exists'.mp hruns
    have hasked : askedTimer (0 : Byte).toNat = none := rfl
    have hsets := h.setsHostTimer (Nat.zero_le 60) fun _ => hruns
    rw [hasked, OutputUnit.lampItems_timerEnds _ hn, Option.isSome_none, Bool.or_false] at hsets
    exact hsets
  · subst hzero
    refine h.turnsAway rfl rfl (by decide) (by decide) ?_
    have hanswer := State.lampTestRequest_idle (s := s.renewLease l) l (by simpa using hidle)
    rw [State.renewLease_output] at hanswer
    exact hanswer

end Sys2Proof.Machine
end

section
/-! SUPPORT. The outputs (06 R108 to R110, R112, R116, R120, R121): the lamp patterns over the cycle, lamp test, COMMON. -/

namespace Sys2Proof.Machine

/-! ### The lamps (06 Tables 6-1, 6-2) -/

theorem Pattern.onAt_fast_iff (cycle : Nat) : Pattern.fast.onAt cycle = true ↔ cycle % 250 < 125 := decide_eq_true_iff

theorem Pattern.onAt_slow_iff (cycle : Nat) : Pattern.slow.onAt cycle = true ↔ cycle < 500 := decide_eq_true_iff

theorem Pattern.onAt_first_iff (cycle : Nat) :
    Pattern.first.onAt cycle = true ↔ cycle < 100 ∨ (200 ≤ cycle ∧ cycle < 300) := by
  simp [Pattern.onAt]

theorem Pattern.onAt_steady_iff (cycle : Nat) : Pattern.steady.onAt cycle = true ↔ True := iff_of_true rfl trivial

theorem Pattern.onAt_off_iff (cycle : Nat) : Pattern.off.onAt cycle = true ↔ False := iff_of_false Bool.false_ne_true id

theorem OutputUnit.lampTest_iff (u : OutputUnit) : u.lampTest = true ↔ u.testLevel = true ∨ u.hostTimer ≠ none := by
  simp [OutputUnit.lampTest, Option.isSome_iff_ne_none]

/-- A lamp is on in lamp test, or while its point's pattern is (06 R109, R110, R116). -/
theorem State.lampOn_iff {s : State} (hr : s.inReset = false) (p : Point) :
    s.lampOn p = true ↔
      s.output.lampTest = true ∨ (phasePattern (s.point p).shownPhase (s.point p).shownMark).onAt s.output.cycle = true := by
  cases ht : s.output.lampTest <;> simp [State.lampOn, State.lampPattern, hr, ht, Pattern.onAt_steady_iff]

/-! ### HORN, TONE and COMMON -/

theorem State.hornOutput_running {s : State} (hr : s.inReset = false) : s.hornOutput = s.output.horn := by
  simp [State.hornOutput, hr]

theorem State.toneOutput_running {s : State} (hr : s.inReset = false) : s.toneOutput = s.output.tone := by
  simp [State.toneOutput, hr]

theorem Phase.holdsCommon_iff (ph : Phase) : ph.holdsCommon = true ↔ ph = .alert ∨ ph = .acked := by
  cases ph <;> decide

theorem State.commonOutput_iff {s : State} (hr : s.inReset = false) :
    s.commonOutput = true ↔ ∃ p, (s.point p).shownPhase = .alert ∨ (s.point p).shownPhase = .acked := by
  simp [State.commonOutput, State.common, everyPoint, hr, Phase.holdsCommon_iff]

/-- Settles O58: the pattern of each row of Table 6-2, by its line of Table 6-1. -/
theorem outputsFollowTheCopies : Obligations.OutputsFollowTheCopies := by
  intro s hr
  refine ⟨s.hornOutput_running hr, s.toneOutput_running hr, fun p => ?_, s.commonOutput_iff hr⟩
  rw [State.lampOn_iff hr, OutputUnit.lampTest_iff, or_assoc]
  refine or_congr_right (or_congr_right ?_)
  cases (s.point p).shownPhase with
  | alert | clearedUnacked =>
    cases (s.point p).shownMark with
    | true => exact Pattern.onAt_first_iff _
    | false => exact Pattern.onAt_fast_iff _
  | acked =>
    cases (s.point p).shownMark with
    | true => exact Pattern.onAt_first_iff _
    | false => exact Pattern.onAt_steady_iff _
  | waitReset => exact Pattern.onAt_steady_iff _
  | ringback => exact Pattern.onAt_slow_iff _
  | normal | outOfService | suppressed | undefined => exact Pattern.onAt_off_iff _

end Sys2Proof.Machine
end

section
/-! SUPPORT. The wraps of the pattern cycle and of the day (06 R108; 08 R136). -/

namespace Sys2Proof.Machine

theorem exec_patternCycleWrap {s : State} (hr : s.inReset = false) (hc : s.output.cycle = Config.lastCycle) :
    exec .patternCycleWrap s = .next { s with output := { s.output with cycle := 0 } } := by
  simp [exec, execPatternCycleWrap, State.whenRunning, State.modifyOutput, hr, hc]

theorem exec_dayRollover {s : State} (hr : s.inReset = false) (hm : s.time.ms = Config.lastMsOfDay) :
    exec .dayRollover s = .next { s with time := s.time.rollover } := by
  simp [exec, execDayRollover, State.whenRunning, hr, hm]

/-- The day after 65535 is 0, the day after any other is the next number (08 R136). -/
theorem nextDay_cases (day : BitVec 16) : if day = 65535 then day + 1 = 0 else (day + 1).toNat = day.toNat + 1 := by
  split
  case isTrue h => rw [h]; rfl
  case isFalse h => bv_omega

/-- Settles O23: each wrap is one write of its counter. -/
theorem countersWrap : Obligations.CountersWrap := by
  intro s hr
  exact ⟨exec_patternCycleWrap hr, fun hm => ⟨s.time.day + 1, nextDay_cases s.time.day, exec_dayRollover hr hm⟩⟩

end Sys2Proof.Machine
end

section
/-! SUPPORT. The chatter unit (07): its quiet expiries, the suppression of a point, the restore timer of a suppressed one. -/

namespace Sys2Proof.Machine

/-! ### The quiet expiries (02 R34, 07 R126) -/

theorem exec_forgetTimerExpiry {s : State} {p : Point} {d : PointDef} {e : Nat} (hr : s.inReset = false)
    (hd : (s.point p).definition = some d) (he : (s.point p).delay = .forget e) (hle : d.offDelay * 10 ≤ e) :
    exec (.forgetTimerExpiry p) s = .next (s.modifyPoint p fun x => { x with delay := .idle, accumulated := 0 }) := by
  have hdue : s.forgetDue p = some d := by simp [State.forgetDue, hd, he, PointDef.offDelayMs, hle]
  simp [exec, execForgetTimerExpiry, State.whenRunning, hr, hdue]

theorem exec_chatterWindowExpiry {s : State} {p : Point} (hr : s.inReset = false) (hw : (s.point p).window = some 0) :
    exec (.chatterWindowExpiry p) s = .next (s.modifyPoint p fun x => { x with raiseCount := 0, window := none }) := by
  simp [exec, execChatterWindowExpiry, State.whenRunning, hr, hw]

/-- Settles O14: each expiry is one update of its point. -/
theorem quietExpiriesForget : Obligations.QuietExpiriesForget := by
  intro p s hr
  exact ⟨fun d e hd he hle => ⟨_, exec_forgetTimerExpiry hr hd he hle, s.modifyPoint_onlyPoint p _, rfl,
      s.point_modifyPoint_self p _⟩,
    fun hw => ⟨_, exec_chatterWindowExpiry hr hw, s.modifyPoint_onlyPoint p _, rfl, s.point_modifyPoint_self p _⟩⟩

/-! ### The signals of a SUPPRESSED point (07 R128) -/

/-- A command raises a point only from NORMAL_Q or after a restart, and clears it only from ABNORMAL_Q: never both. -/
theorem RaisesBy.not_clearsBy {s : State} {p : Point} {d : PointDef} {c : Instr} (h : RaisesBy s p d c) :
    ¬ ClearsBy s p d c := by
  rintro (⟨rfl, -⟩ | ⟨rfl, hlow, -⟩)
  · simp [RaisesBy] at h
  · simp [RaisesBy, hlow] at h

theorem State.raise_suppressed {s : State} {p : Point} {d : PointDef} (hp : (s.point p).phase = .suppressed)
    (h0 : d.chatterLimit ≠ 0) : s.raise p d = s.modifyPoint p fun x => { x with restore := none } := by
  rw [State.raise, if_neg h0, State.chatterRaise, if_pos hp]

theorem State.clear_suppressed {s : State} {p : Point} {d : PointDef} (hp : (s.point p).phase = .suppressed)
    (h0 : d.chatterLimit ≠ 0) : s.clear p d = s.modifyPoint p fun x => { x with restore := some d.windowMs } := by
  rw [State.clear, if_neg h0, State.chatterClear, if_pos hp]

/-- The command that raises a SUPPRESSED point cancels its restore timer (02 R35, 07 R128). -/
theorem RaisesBy.exec_suppressed {s : State} {p : Point} {d : PointDef} {c : Instr} (h : RaisesBy s p d c)
    (hr : s.inReset = false) (hd : (s.point p).definition = some d) (hp : (s.point p).phase = .suppressed)
    (h0 : d.chatterLimit ≠ 0) :
    exec c s = .next (s.modifyPoint p fun x => { x.raised p c with restore := none }).finish := by
  rw [h.exec_eq hr hd (by rw [hp]; decide), State.raise_suppressed _ h0, State.modifyPoint_modifyPoint]
  rw [State.point_modifyPoint_self]
  exact hp

/-- The command that clears a SUPPRESSED point starts its restore timer (02 R35, 07 R128). -/
theorem ClearsBy.exec_suppressed {s : State} {p : Point} {d : PointDef} {c : Instr} (h : ClearsBy s p d c)
    (hr : s.inReset = false) (hd : (s.point p).definition = some d) (hp : (s.point p).phase = .suppressed)
    (h0 : d.chatterLimit ≠ 0) :
    exec c s = .next (s.modifyPoint p fun x => { x.lowered p c with restore := some d.windowMs }).finish := by
  rw [h.exec_eq hr hd (by rw [hp]; decide), State.clear_suppressed _ h0, State.modifyPoint_modifyPoint]
  rw [State.point_modifyPoint_self]
  exact hp

theorem State.modifyPoint_finish_point (s : State) (p : Point) (f : PointState → PointState) :
    (s.modifyPoint p f).finish.point p = f (s.point p) := by
  rw [State.finish_point, State.point_modifyPoint_self]

/-- An event that only updates one point leaves the rest alone: its end has no record to offer (09 R155). -/
theorem State.modifyPoint_finish_frame (s : State) (p : Point) (f : PointState → PointState) :
    let t := (s.modifyPoint p f).finish
    OnlyPoint s t p ∧ (∀ l, Undisturbed (s.chain l) (t.chain l)) ∧
      t = { s with points := t.points, chainA := t.chainA, chainB := t.chainB } := by
  refine ⟨fun q hq => ?_, fun l => ?_, State.finish_points_only rfl⟩
  · rw [State.finish_point, State.point_modifyPoint_ne s hq]
  · rw [← s.modifyPoint_chain p f]
    exact State.finish_undisturbed _ l

/-- Settles O18: the signal, whichever command brings it, is one update of the point. -/
theorem suppressedSignalsMoveTheRestoreTimer : Obligations.SuppressedSignalsMoveTheRestoreTimer := by
  intro c p s d hr hd hp h0 hsignal
  rcases hsignal with hraise | hclear
  · obtain ⟨hothers, hchains, hframe⟩ := s.modifyPoint_finish_frame p fun x => { x.raised p c with restore := none }
    exact ⟨_, hraise.exec_suppressed hr hd hp h0, hothers, hchains, hframe, fun _ => s.modifyPoint_finish_point p _,
      fun hclear => absurd hclear hraise.not_clearsBy⟩
  · obtain ⟨hothers, hchains, hframe⟩ :=
      s.modifyPoint_finish_frame p fun x => { x.lowered p c with restore := some d.windowMs }
    exact ⟨_, hclear.exec_suppressed hr hd hp h0, hothers, hchains, hframe,
      fun hraise => absurd hclear hraise.not_clearsBy, fun _ => s.modifyPoint_finish_point p _⟩

/-! ### Suppression (07 R125, R127) -/

/-- A RAISE that brings the count of a running window to the chatter limit suppresses the point (07 R125, R127). -/
theorem State.raise_suppresses {s : State} {p : Point} {d : PointDef} {n : Nat} (hp : (s.point p).phase ≠ .suppressed)
    (h0 : d.chatterLimit ≠ 0) (hw : (s.point p).window = some n) (hc : (s.point p).raiseCount + 1 = d.chatterLimit) :
    s.raise p d = s.suppress p := by
  have hcount : ¬ (s.point p).countedRaise < d.chatterLimit := by simp [PointState.countedRaise, hw, hc]
  rw [State.raise, if_neg h0, State.chatterRaise, if_neg hp, if_neg hcount]

/-- The command that raises a point to its chatter limit is a phase change out of the episode, with the chatter unit at rest. -/
theorem RaisesBy.exec_suppresses {s : State} {p : Point} {d : PointDef} {c : Instr} {n : Nat} (h : RaisesBy s p d c)
    (hr : s.inReset = false) (hd : (s.point p).definition = some d) (hout : (s.point p).phase ≠ .outOfService)
    (hp : (s.point p).phase ≠ .suppressed) (h0 : d.chatterLimit ≠ 0) (hw : (s.point p).window = some n)
    (hc : (s.point p).raiseCount + 1 = d.chatterLimit) :
    exec c s = .next ((s.modifyPoint p fun x => (x.raised p c).quiet).move p .suppressed none (.suppressed .suppressed)
      .part id).finish := by
  rw [h.exec_eq hr hd hout, State.raise_suppresses _ h0 (n := n), State.suppress, State.modifyPoint_modifyPoint]
  all_goals rwa [State.point_modifyPoint_self]

/-- Settles O17: the RAISE that is not passed on is a phase change that closes the point's entry, if it has one. -/
theorem chatterLimitSuppresses : Obligations.ChatterLimitSuppresses := by
  intro c p s d n hr hj hd hraise hp hlimit hw hc
  have hout : (s.point p).phase ≠ .outOfService := fun h => by simp [h] at hp
  have hsup : (s.point p).phase ≠ .suppressed := fun h => by simp [h] at hp
  have hcloses := (State.move_closes (s.modifyPoint p fun x => (x.raised p c).quiet) p .suppressed none
    (.suppressed .suppressed) .part id rfl).finish
  obtain ⟨hpoint, hothers, hlist, hnone, hsome, hlatch, hchains, hframe⟩ := hcloses.after rfl
  rw [State.groupOf_of_definition hd] at hnone hsome
  refine ⟨_, hraise.exec_suppresses hr hd hout hsup (by omega) hw hc, hothers, hchains, hframe, hpoint, hlist,
    by simpa using hlatch, fun he => ?_, fun e he => ?_⟩
  · obtain ⟨hgroups, hgrows⟩ := hnone he
    exact ⟨hgroups, hgrows hj⟩
  · obtain ⟨honly, hgroup, hgrows⟩ := hsome e he
    exact ⟨honly, hgroup, hgrows hj⟩

/-! ### The return to NORMAL (07 R129, R130) -/

/-- What an event does that takes point `p` to `x` with one record, neither setting a latch nor touching the definitions, the
groups or the alarm list; `u` is the session unit it leaves. -/
structure Returns (s t : State) (u : SessionUnit) (p : Point) (x : PointState) (item : Item) : Prop where
  point : t.point p = x
  others : OnlyPoint s t p
  appends : s.journal.length ≤ Config.journalCapacity → Appends s t [item]
  latches : Latched s t false false
  definitions : SameDefinitions s t
  frame : t = { s with session := u, points := t.points, journal := t.journal, nextSeq := t.nextSeq, output := t.output,
                       chainA := t.chainA, chainB := t.chainB }

/-- A suppressed point as its return to NORMAL leaves it: the qualification carries on (07 R129). -/
def PointState.restored (x : PointState) : PointState := { x.moved .normal none false with restore := none }

/-- A suppressed point returns to NORMAL by its timer, or by a request that may have renewed the lease (07 R129, R130). -/
theorem State.restorePoint_returns (s : State) (u : SessionUnit) (p : Point) (cause : RestoreCause) (src : Source) :
    Returns s (({ s with session := u } : State).restorePoint p cause src) u p (s.point p).restored
      (.restored .normal cause, src, some p, s.groupOf p) := by
  have hpoints : SameDefinitions s ({ s with session := u } : State) := .of_tables rfl rfl
  have hphase := (hpoints.trans (.modifyPoint _ p (fun x => { x with restore := none }) rfl)).trans
    (.setPhase _ p .normal none)
  constructor
  · exact State.restorePoint_point _ p cause src
  · exact State.restorePoint_onlyPoint _ p cause src
  · intro hj
    have hrec := Appends.first hj (u := (({ s with session := u } : State).modifyPoint p
      fun x => { x with restore := none }).setPhase p .normal none) rfl rfl (fun m => by cases m <;> rfl)
      (.restored .normal cause) src (some p) (s.groupOf p)
    rw [← hphase.groupOf] at hrec ⊢
    exact hrec.tell p .normal false
  · exact State.tell_latched (by simp [State.appendPoint]) p false (by decide) (by decide)
  · exact (hphase.trans (.of_tables (by simp [State.appendPoint]) (by simp [State.appendPoint]))).trans
      (.tell _ p .normal false)
  · exact State.eq_of_fields (by simp [State.restorePoint, State.appendPoint])

theorem exec_restoreTimerExpiry {s : State} {p : Point} (hr : s.inReset = false) (hp : (s.point p).phase = .suppressed)
    (ht : (s.point p).restore = some 0) :
    exec (.restoreTimerExpiry p) s = .next (s.restorePoint p .auto .part).finish := by
  simp [exec, execRestoreTimerExpiry, State.whenRunning, hr, State.restoreDue, hp, ht]

/-- Settles O22: the expiry is the return to NORMAL, and the end of the event. -/
theorem restoreTimerReturnsToNormal : Obligations.RestoreTimerReturnsToNormal := by
  intro p s hr hj hp ht
  have hreturns := s.restorePoint_returns s.session p .auto .part
  have happ := hreturns.appends hj
  have hends := State.finish_onlyUnits (s.restorePoint p .auto .part)
  refine ⟨_, exec_restoreTimerExpiry hr hp ht, fun q hq => (hends.point q).trans (hreturns.others q hq), fun l => ?_, ?_,
    (hends.point p).trans hreturns.point, hends.grows happ.grows, hends.latched hreturns.latches⟩
  · exact (happ.deliveryOnly l).undisturbed.trans (State.finish_undisturbed _ l)
  · rw [State.finish_frame, hreturns.frame]

end Sys2Proof.Machine
end

section
/-! SUPPORT. RESTORE (07 R130, R131): the return to NORMAL by a request, and the episode an ABNORMAL_Q point begins after it. -/

namespace Sys2Proof.Machine

/-! ### An episode begun after the return to NORMAL (03 R49, 07 R131) -/

/-- A change of the point that keeps its definition and its copy goes on in the event that returned it. -/
theorem Returns.modifyPoint {s t : State} {u : SessionUnit} {p : Point} {x : PointState} {item : Item}
    (h : Returns s t u p x item) {f : PointState → PointState} (hd : (f x).definition = x.definition)
    (hc : (f x).shownPhase = x.shownPhase) : Returns s (t.modifyPoint p f) u p (f x) item where
  point := by rw [State.point_modifyPoint_self, h.point]
  others := fun q hq => (State.point_modifyPoint_ne t hq f).trans (h.others q hq)
  appends := fun hj => (h.appends hj).modifyPoint p f
  latches := h.latches.modifyPoint p f (by rw [h.point, hd]) (by rw [h.point, hc])
  definitions := h.definitions.trans (.modifyPoint t p f (by rw [h.point, hd]))
  frame := by rw [h.frame]; rfl

/-- What an event does that returns point `p` with one record, as `x`, and then begins its episode (03 R49, 04 R73, R78). -/
structure Reopens (s t : State) (u : SessionUnit) (p : Point) (d : PointDef) (x : PointState) (item : Item) : Prop where
  point : t.point p = x.moved .alert none (s.takesMark d)
  others : OnlyPoint s t p
  otherGroups : OnlyGroup s t d.group
  group : t.group d.group =
    { s.group d.group with firstOut := if s.takesMark d then some p else (s.group d.group).firstOut }
  list : t.alarmList = s.alarmList ++ [{ s.newEntry p d with openSeq := seqNext s.nextSeq }]
  appends : Appends s t [item, (.raised .alert 1 (s.takesMark d), .part, some p, s.groupOf p)]
  latches : Latched s t (s.audible p) false
  frame : t = { s with session := u, points := t.points, groups := t.groups, alarmList := t.alarmList,
                       journal := t.journal, nextSeq := t.nextSeq, output := t.output, chainA := t.chainA,
                       chainB := t.chainB }

/-- The latches of the return leave no trace beside those of the ALERT, and the entry's number follows the return's record. -/
theorem Returns.reopens {s w : State} {u : SessionUnit} {p : Point} {d : PointDef} {x : PointState} {item : Item}
    (h : Returns s w u p x item) (hj : s.journal.length ≤ Config.journalCapacity) :
    Reopens s (w.openEpisode p d) u p d x item := by
  have hopens := w.openEpisode_opens p d
  have happ := h.appends hj
  have htime : w.time = s.time := by rw [h.frame]
  have hgroups (k : Group) : w.group k = s.group k := State.group_congr (by rw [h.frame]) k
  have hmark : w.takesMark d = s.takesMark d := by simp [State.takesMark, hgroups]
  constructor
  · rw [hopens.point, h.point, hmark]
  · exact fun q hq => (hopens.others q hq).trans (h.others q hq)
  · exact fun k hk => (hopens.otherGroups k hk).trans (hgroups k)
  · rw [hopens.group, hmark, hgroups]
  · rw [hopens.list, State.newEntry_after happ htime hmark, h.frame]
  · have hopened := hopens.appends happ.bound_after
    rw [hmark, h.definitions.groupOf] at hopened
    exact happ.trans hopened (by rw [hopens.frame]) (by change 2 ≤ Config.journalCapacity; decide)
  · rw [← h.definitions.audible]
    exact h.latches.then_alert hopens.latches hopens.definitions
      (fun q hq => congrArg PointState.shownPhase (hopens.others q hq)) (by rw [hopens.point]; rfl)
  · exact hopens.frame.trans (by rw [h.frame])

/-! ### The owner's answers (07 R130) -/

theorem State.restoreRequest_undefined {s : State} (l : Link) {p : Point} (hd : (s.point p).definition = none) :
    s.restoreRequest l (some p) = (s, .reply .notDefined [(s.point p).phase.code]) := by
  simp only [State.restoreRequest, hd]

theorem State.restoreRequest_wrongState {s : State} (l : Link) {p : Point} {d : PointDef}
    (hd : (s.point p).definition = some d) (hp : (s.point p).phase ≠ .suppressed) :
    s.restoreRequest l (some p) = (s, .reply .wrongState [(s.point p).phase.code]) := by
  simp only [State.restoreRequest, hd, if_neg hp]

theorem State.restoreRequest_suppressed {s : State} (l : Link) {p : Point} {d : PointDef}
    (hd : (s.point p).definition = some d) (hp : (s.point p).phase = .suppressed) :
    s.restoreRequest l (some p) =
      (s.restoreByRequest l p d, .reply .ok [((s.restoreByRequest l p d).point p).phase.code]) := by
  simp only [State.restoreRequest, hd, if_pos hp]

/-- A NORMAL_Q point stays in NORMAL (07 R130). -/
theorem State.restoreByRequest_stays {s : State} (l : Link) {p : Point} (d : PointDef)
    (hq : (s.point p).qualified = .normalQ) :
    s.restoreByRequest l p d = s.restorePoint p .request (linkSource l) := by
  simp only [State.restoreByRequest, hq]

/-- An ABNORMAL_Q point is raised, and below its chatter limit begins an episode (07 R131). -/
theorem State.restoreByRequest_raises {s : State} (l : Link) {p : Point} {d : PointDef}
    (hq : (s.point p).qualified = .abnormalQ) (hc : (s.point p).countedRaise < d.chatterLimit) :
    s.restoreByRequest l p d =
      ((s.restorePoint p .request (linkSource l)).modifyPoint p (PointState.counted d)).openEpisode p d := by
  simp only [State.restoreByRequest, hq]
  refine State.raise_opens ?_ (.inr ?_) <;> rw [State.restorePoint_point]
  · rfl
  · exact hc

/-- A counted point with a chatter limit, as it begins an episode (07 R125). -/
theorem PointState.counted_limited {d : PointDef} (h0 : d.chatterLimit ≠ 0) (x : PointState) :
    x.counted d =
      { x with
        raiseCount := if x.window = none then 1 else x.raiseCount + 1,
        window := some (x.window.getD (d.chatterWindow * 1000)) } := by
  rw [PointState.counted_eq, if_neg h0, if_neg h0]

/-- A state that differs in its chains alone only goes on in the units. -/
theorem OnlyUnits.of_chains {v t : State} (h : t = { v with chainA := t.chainA, chainB := t.chainB }) : OnlyUnits v t := by
  rw [OnlyUnits, h]

/-- A RESTORE that its owner turns away. -/
theorem Accepts.restore_turnsAway {s : State} {l : Link} {tag number : Byte} (h : Accepts s l .restore tag [number])
    {r : Result} {fields : List Byte} (hr : r ≠ .ok)
    (ha : (s.renewLease l).restoreRequest l (asPoint number.toNat) = (s.renewLease l, .reply r fields)) :
    TurnsAway s (.restore l) l .restore tag r fields :=
  h.turnsAway (sel := anyRequest) rfl rfl hr (by decide) ha

/-- A RESTORE of a SUPPRESSED point is acted on, and the reply carries the phase it leads to (07 R130). -/
theorem Accepts.restore_acts {s : State} {l : Link} {tag number : Byte} (h : Accepts s l .restore tag [number])
    {p : Point} {d : PointDef} {ph : Phase} {items : List Item} (hn : number.toNat = p.val)
    (hd : (s.point p).definition = some d) (hp : (s.point p).phase = .suppressed)
    (hu : Appends s ((s.renewLease l).restoreByRequest l p d) items)
    (hph : (((s.renewLease l).restoreByRequest l p d).point p).phase = ph) :
    ∃ t, exec (.restore l) s = .next t ∧
      t = { (s.renewLease l).restoreByRequest l p d with chainA := t.chainA, chainB := t.chainB } ∧
      Acts s t l .restore tag [ph.code] items := by
  have hans : (s.renewLease l).restoreRequest l (asPoint number.toNat) =
      ((s.renewLease l).restoreByRequest l p d, .reply .ok [ph.code]) := by
    rw [asPoint_val hn, State.restoreRequest_suppressed l (by simpa using hd) (by simpa using hp), hph]
  exact h.acts (sel := anyRequest) rfl rfl rfl (by rw [State.renewFor, if_neg (by decide)]; exact hans) hu

/-- Settles O46: an accepted request is the return to NORMAL, with an episode after it where the point is ABNORMAL_Q. -/
theorem restoreReturnsToNormal : Obligations.RestoreReturnsToNormal := by
  intro l tag number s h
  refine ⟨fun hn => ?_, fun p hn => ⟨fun hd => ?_, fun d hd => ⟨fun hp => ?_, fun hp hq => ?_,
    fun g hp hq hg h0 hc => ?_⟩⟩⟩
  · refine h.restore_turnsAway (by decide) ?_
    rw [asPoint_none hn]
    rfl
  · refine h.restore_turnsAway (by decide) ?_
    rw [asPoint_val hn, State.restoreRequest_undefined l (by simpa using hd), State.renewLease_point]
  · refine h.restore_turnsAway (by decide) ?_
    rw [asPoint_val hn, State.restoreRequest_wrongState l (by simpa using hd) (by simpa using hp), State.renewLease_point]
  · have hreturns := s.restorePoint_returns (s.sessionAfter l) p .request (linkSource l)
    rw [← State.renewLease_eq, State.groupOf_of_definition hd, ← State.restoreByRequest_stays l d (by simpa using hq)]
      at hreturns
    obtain ⟨t, ht, hchains, hacts⟩ := h.restore_acts (ph := .normal) hn hd hp (hreturns.appends h.journal)
      (by rw [hreturns.point]; rfl)
    have hunits := OnlyUnits.of_chains hchains
    refine ⟨t, ht, fun q hne => (hunits.point q).trans (hreturns.others q hne), ?_,
      (hunits.point p).trans hreturns.point, hunits.latched hreturns.latches, hacts⟩
    rw [hchains, hreturns.frame]
  · have hreopens := ((s.restorePoint_returns (s.sessionAfter l) p .request (linkSource l)).modifyPoint
      (f := PointState.counted d) (by rw [PointState.counted_eq]) (by rw [PointState.counted_eq])).reopens (d := d) h.journal
    rw [← State.renewLease_eq, State.groupOf_of_definition hd,
      ← State.restoreByRequest_raises l (by simpa using hq) (by simpa using hc)] at hreopens
    obtain ⟨t, ht, hchains, hacts⟩ := h.restore_acts (ph := .alert) hn hd hp hreopens.appends
      (by rw [hreopens.point]; rfl)
    have hunits := OnlyUnits.of_chains hchains
    have hmark : s.takesMark d = (g.firstOutEnabled && (s.group d.group).firstOut.isNone) := by simp [State.takesMark, hg]
    obtain ⟨hpoint, hothers, hgroups, hgroup, hlist, -, hlatch, hframe⟩ := hreopens
    rw [State.newEntry] at hlist
    rw [State.groupOf_of_definition hd] at hacts
    rw [State.audible_of_definitions hd hg] at hlatch
    rw [hmark] at hpoint hgroup hlist hacts
    refine ⟨t, ht, fun q hne => (hunits.point q).trans (hothers q hne), fun k hk => (hunits.group k).trans (hgroups k hk),
      ?_, ?_, (hunits.group _).trans hgroup, ?_, hunits.latched hlatch, hacts⟩
    · rw [hchains, hframe]
    · rw [hunits.point, hpoint, PointState.counted_limited h0]
      rfl
    · rw [hchains]
      exact hlist

end Sys2Proof.Machine
end

section
/-! SUPPORT. The journal's numbers: what an append leaves of a consecutive journal, and which numbers it holds. -/

namespace Sys2Proof.Machine

/-! ### Consecutive records -/

theorem consecutive.tail {last : Seq} {j : List Record} (h : consecutive last j) : consecutive last j.tail := by
  cases j with
  | nil => trivial
  | cons r rest => exact h.2.2

/-- A record that takes the next number goes on with the numbering (08 R142). -/
theorem consecutive.concat {j : List Record} {r : Record} (h : consecutive r.seq j) (h0 : r.seq ≠ 0) :
    consecutive (seqNext r.seq) (j ++ [r]) := by
  induction j with
  | nil => exact ⟨h0, rfl, trivial⟩
  | cons x rest ih =>
    obtain ⟨hx, hnext, hrest⟩ := h
    refine ⟨hx, ?_, ih hrest⟩
    cases rest <;> exact hnext

/-- The records of one event are consecutive (08 R140, R142). -/
theorem consecutive_recordsFrom (stamp : Stamp) (items : List Item) {n : Seq} (h0 : n ≠ 0) :
    consecutive (seqAfter items.length n) (recordsFrom n stamp items) := by
  induction items generalizing n with
  | nil => trivial
  | cons x rest ih =>
    refine ⟨h0, ?_, ih (seqNext_ne_zero n)⟩
    cases rest <;> rfl

theorem seqAfter_ne_zero (k : Nat) {n : Seq} (h : n ≠ 0) : seqAfter k n ≠ 0 := by
  induction k generalizing n with
  | zero => exact h
  | succ k ih => exact ih (seqNext_ne_zero n)

/-- What the journal and the number after it satisfy (08 R142, R143), with both as variables. -/
def LogSound (next : Seq) (j : List Record) : Prop :=
  j ≠ [] ∧ j.length ≤ Config.journalCapacity ∧ next ≠ 0 ∧ consecutive next j

theorem State.journalSound_iff (s : State) : s.journalSound ↔ LogSound s.nextSeq s.journal := Iff.rfl

/-- One more record, in the place of the oldest where the journal is full (08 R145). -/
theorem LogSound.append {j : List Record} {r : Record} (h : LogSound r.seq j) :
    LogSound (seqNext r.seq) ((if j.length < Config.journalCapacity then j else j.tail) ++ [r]) := by
  obtain ⟨-, hlen, h0, hcons⟩ := h
  refine ⟨List.append_ne_nil_of_right_ne_nil _ (List.cons_ne_nil r []), ?_, seqNext_ne_zero _, ?_⟩
  · have hpos : 0 < Config.journalCapacity := by decide
    rw [List.length_append, List.length_singleton]
    split
    · omega
    · rw [List.length_tail]
      omega
  · split
    · exact hcons.concat h0
    · exact hcons.tail.concat h0

/-- The records of one event, from number 1 on, are a sound journal of their own, as after a cold reset (08 R147). -/
theorem LogSound.ofRecordsFrom (stamp : Stamp) {items : List Item} (hne : items ≠ [])
    (hlen : items.length ≤ Config.journalCapacity) : LogSound (seqAfter items.length 1) (recordsFrom 1 stamp items) := by
  refine ⟨?_, (recordsFrom_length 1 stamp items).trans_le hlen, seqAfter_ne_zero items.length (by decide),
    consecutive_recordsFrom stamp items (by decide)⟩
  rw [← List.length_pos_iff, recordsFrom_length]
  exact List.length_pos_iff.mpr hne

/-! ### The numbers held -/

/-- From one number, two numbers of the cycle at the same distance are one (08 R144). -/
theorem forward_inj {a b c : Seq} (ha : a ≠ 0) (hb : b ≠ 0) (hc : c ≠ 0) (h : forward a b = forward a c) : b = c := by
  have pos (n : Seq) (hn : n ≠ 0) : n.toNat ≠ 0 := fun e => hn (BitVec.eq_of_toNat_eq e)
  have ha' := pos a ha
  have hb' := pos b hb
  have hc' := pos c hc
  have hbl := b.isLt
  have hcl := c.isLt
  apply BitVec.eq_of_toNat_eq
  unfold forward at h
  split at h <;> split at h <;> omega

/-- The numbers within the journal's length of its oldest are those of its records (08 R143, R144). -/
theorem State.isHeld_iff {s : State} {n : Seq} (hs : s.journalSound) (hn : n ≠ 0) :
    s.isHeld n = true ↔ ∃ r ∈ s.journal, r.seq = n := by
  obtain ⟨hne, hlen, -, hcons⟩ := hs
  obtain ⟨x, rest, hj⟩ := List.exists_cons_of_ne_nil hne
  have hx : s.journal.head? = some x := by rw [hj]; rfl
  have hx0 : x.seq ≠ 0 := by
    rw [hj] at hcons
    exact hcons.1
  have hstands := consecutive.getElem s.journal s.nextSeq hcons (Nat.lt_of_le_of_lt hlen (by decide)) x hx
  have hheld : s.isHeld n = true ↔ forward x.seq n < s.journal.length := by simp [State.isHeld, State.oldestSeq, hx]
  rw [hheld]
  constructor
  · intro hi
    obtain ⟨hfar, h0⟩ := hstands _ hi
    exact ⟨_, List.getElem_mem hi, forward_inj hx0 h0 hn hfar⟩
  · rintro ⟨r, hr, rfl⟩
    obtain ⟨i, hi, rfl⟩ := List.getElem_of_mem hr
    rwa [(hstands i hi).1]

theorem State.position_held_iff (s : State) (n : Seq) : s.position n = .held ↔ s.isHeld n = true := by
  unfold State.position
  cases h : s.isHeld n
  · simp only [Bool.false_eq_true, if_false, iff_false]
    repeat' split
    all_goals nofun
  · simp

/-- Settles O59: the positions call Held what lies within the journal's length of its oldest record. -/
theorem heldMeansARecordIsHeld : Obligations.HeldMeansARecordIsHeld := by
  intro s n hs hn
  rw [State.position_held_iff, State.isHeld_iff hs hn]

end Sys2Proof.Machine
end

section
/-! SUPPORT. What every operation and every command leave of the journal, and the statement about it. -/

namespace Sys2Proof.Machine

/-! ### The operations that append nothing -/

theorem State.journalSound_congr {s t : State} (hj : t.journal = s.journal) (hn : t.nextSeq = s.nextSeq) :
    t.journalSound ↔ s.journalSound := by
  rw [State.journalSound_iff, State.journalSound_iff, hj, hn]

@[simp] theorem State.modifyPoint_journalSound (s : State) (p : Point) (f : PointState → PointState) :
    (s.modifyPoint p f).journalSound ↔ s.journalSound :=
  State.journalSound_congr (by simp) (by simp)

@[simp] theorem State.modifyGroup_journalSound (s : State) (g : Group) (f : GroupState → GroupState) :
    (s.modifyGroup g f).journalSound ↔ s.journalSound :=
  State.journalSound_congr (by simp) (by simp)

@[simp] theorem State.modifyEntry_journalSound (s : State) (p : Point) (f : Entry → Entry) :
    (s.modifyEntry p f).journalSound ↔ s.journalSound :=
  State.journalSound_congr (by simp) (by simp)

@[simp] theorem State.dropEntry_journalSound (s : State) (p : Point) : (s.dropEntry p).journalSound ↔ s.journalSound :=
  State.journalSound_congr (by simp) (by simp)

@[simp] theorem State.openEntry_journalSound (s : State) (e : Entry) : (s.openEntry e).journalSound ↔ s.journalSound :=
  State.journalSound_congr (by simp) (by simp)

@[simp] theorem State.setPhase_journalSound (s : State) (p : Point) (ph : Phase) (timer : Option Nat) :
    (s.setPhase p ph timer).journalSound ↔ s.journalSound :=
  State.journalSound_congr (by simp) (by simp)

@[simp] theorem State.tell_journalSound (s : State) (p : Point) (ph : Phase) (mark : Bool) :
    (s.tell p ph mark).journalSound ↔ s.journalSound :=
  State.journalSound_congr (by simp) (by simp)

@[simp] theorem State.setChain_journalSound (s : State) (l : Link) (c : Chain) :
    (s.setChain l c).journalSound ↔ s.journalSound :=
  State.journalSound_congr (by simp) (by simp)

@[simp] theorem State.setReceiver_journalSound (s : State) (l : Link) (x : Receiver) :
    (s.setReceiver l x).journalSound ↔ s.journalSound :=
  State.journalSound_congr (by simp) (by simp)

@[simp] theorem State.freeLine_journalSound (s : State) (l : Link) : (s.freeLine l).journalSound ↔ s.journalSound :=
  State.journalSound_congr (by simp) (by simp)

@[simp] theorem State.modifyDelivery_journalSound (s : State) (l : Link) (f : Delivery → Delivery) :
    (s.modifyDelivery l f).journalSound ↔ s.journalSound :=
  State.journalSound_congr (by simp) (by simp)

@[simp] theorem State.replacePlace_journalSound (s : State) (l : Link) (f : Place → Option Place) :
    (s.replacePlace l f).journalSound ↔ s.journalSound :=
  State.journalSound_congr (by simp) (by simp)

@[simp] theorem State.modifySession_journalSound (s : State) (f : SessionUnit → SessionUnit) :
    (s.modifySession f).journalSound ↔ s.journalSound :=
  State.journalSound_congr (by simp) (by simp)

@[simp] theorem State.renewLease_journalSound (s : State) (l : Link) : (s.renewLease l).journalSound ↔ s.journalSound :=
  State.journalSound_congr (by simp) (by simp)

@[simp] theorem State.modifyOperator_journalSound (s : State) (f : OperatorUnit → OperatorUnit) :
    (s.modifyOperator f).journalSound ↔ s.journalSound :=
  State.journalSound_congr (by simp) (by simp)

@[simp] theorem State.advanceAction_journalSound (s : State) (src : Source) (a : Action) (pos : Option WalkPos) :
    (s.advanceAction src a pos).journalSound ↔ s.journalSound :=
  State.journalSound_congr (by simp) (by simp)

@[simp] theorem State.modifyOutput_journalSound (s : State) (f : OutputUnit → OutputUnit) :
    (s.modifyOutput f).journalSound ↔ s.journalSound :=
  State.journalSound_congr (by simp) (by simp)

@[simp] theorem State.advanceGeneration_journalSound (s : State) : s.advanceGeneration.journalSound ↔ s.journalSound :=
  State.journalSound_congr (by simp) (by simp)

@[simp] theorem State.startTx_journalSound (s : State) (l : Link) : (s.startTx l).journalSound ↔ s.journalSound :=
  State.journalSound_congr (by simp) (by simp)

@[simp] theorem State.finish_journalSound (s : State) : s.finish.journalSound ↔ s.journalSound :=
  State.journalSound_congr (by simp) (by simp)

/-! ### The operations that append -/

section
variable {s : State} (h : s.journalSound)
include h

/-- An append numbers its record with the number after the journal (08 R142, R145). -/
@[simp] theorem State.append_journalSound (k : RecordKind) (src : Source) (p : Option Point) (g : Option Group) :
    (s.append k src p g).journalSound := by
  rw [State.journalSound_iff, State.append_journal]
  exact LogSound.append (r := s.newRecord k src p g) h

@[simp] theorem State.appendPoint_journalSound (k : RecordKind) (src : Source) (p : Point) :
    (s.appendPoint k src p).journalSound := State.append_journalSound h k src _ _

@[simp] theorem State.appendBare_journalSound (k : RecordKind) (src : Source) :
    (s.appendBare k src).journalSound := State.append_journalSound h k src _ _

@[simp] theorem State.closeEntry_journalSound (p : Point) (src : Source) : (s.closeEntry p src).journalSound := by
  rcases s.closeEntry_cases p src with ⟨-, e⟩ | ⟨_, -, -, e⟩ | ⟨_, -, -, e⟩ <;> rw [e] <;> simp [h]

@[simp] theorem State.move_journalSound (p : Point) (ph : Phase) (timer : Option Nat) (kind : RecordKind) (src : Source)
    (upd : Entry → Entry) : (s.move p ph timer kind src upd).journalSound := by
  unfold State.move
  dsimp only
  split <;> simp [h]

@[simp] theorem State.clearFirstOut_journalSound (g : Group) (src : Source) : (s.clearFirstOut g src).1.journalSound := by
  unfold State.clearFirstOut
  split <;> simp [h]

@[simp] theorem State.lampSources_journalSound (src : Source) (f : OutputUnit → OutputUnit) :
    (s.lampSources src f).journalSound := by
  unfold State.lampSources
  dsimp only
  split <;> simp [h]

@[simp] theorem State.silence_journalSound (src : Source) : (s.silence src).journalSound := by
  unfold State.silence
  split <;> simp [h]

/-! ### The sequence engine and the chatter unit -/

@[simp] theorem State.openEpisode_journalSound (p : Point) (d : PointDef) : (s.openEpisode p d).journalSound := by
  unfold State.openEpisode
  dsimp only
  split <;> simp [h]

@[simp] theorem State.reraise_journalSound (p : Point) : (s.reraise p).journalSound := by
  unfold State.reraise
  split <;> simp [h]

@[simp] theorem State.engineRaise_journalSound (p : Point) (d : PointDef) : (s.engineRaise p d).journalSound := by
  unfold State.engineRaise
  split <;> simp [h]

@[simp] theorem State.engineClear_journalSound (p : Point) : (s.engineClear p).journalSound := by
  unfold State.engineClear
  split <;> simp [h]

@[simp] theorem State.ackPoint_journalSound (p : Point) (src : Source) : (s.ackPoint p src).1.journalSound := by
  unfold State.ackPoint
  split <;> simp [h]

@[simp] theorem State.resetPoint_journalSound (p : Point) (src : Source) : (s.resetPoint p src).1.journalSound := by
  unfold State.resetPoint
  split <;> simp [h]

@[simp] theorem State.raise_journalSound (p : Point) (d : PointDef) : (s.raise p d).journalSound := by
  unfold State.raise State.chatterRaise State.suppress
  repeat' split
  all_goals simp [h]

@[simp] theorem State.clear_journalSound (p : Point) (d : PointDef) : (s.clear p d).journalSound := by
  unfold State.clear State.chatterClear
  repeat' split
  all_goals simp [h]

@[simp] theorem State.restorePoint_journalSound (p : Point) (cause : RestoreCause) (src : Source) :
    (s.restorePoint p cause src).journalSound := by
  simp [State.restorePoint, h]

/-! ### Qualification -/

@[simp] theorem State.becomeAbnormal_journalSound (p : Point) (d : PointDef) : (s.becomeAbnormal p d).journalSound := by
  simp [State.becomeAbnormal, h]

@[simp] theorem State.becomeNormal_journalSound (p : Point) (d : PointDef) : (s.becomeNormal p d).journalSound := by
  simp [State.becomeNormal, h]

@[simp] theorem State.beginAbnormal_journalSound (p : Point) (d : PointDef) : (s.beginAbnormal p d).journalSound := by
  unfold State.beginAbnormal
  split <;> simp [h]

theorem State.takeNormal_journalSound (p : Point) (d : PointDef) : (s.takeNormal p d).journalSound := by
  unfold State.takeNormal
  repeat' split
  all_goals simp [h]

theorem State.takeAbnormal_journalSound (p : Point) (d : PointDef) : (s.takeAbnormal p d).journalSound := by
  unfold State.takeAbnormal
  split <;> simp [h]

@[simp] theorem State.qualify_journalSound (p : Point) (d : PointDef) (level : Level) :
    (s.qualify p d level).journalSound := by
  cases level
  · exact State.takeNormal_journalSound h p d
  · exact State.takeAbnormal_journalSound h p d

/-! ### Walks, panel and links -/

@[simp] theorem State.beginPress_journalSound (x : Press) : (s.beginPress x).journalSound := by
  cases x <;> simp [State.beginPress, State.beginAction, h]

@[simp] theorem State.takePanelTransition_journalSound (line : PanelLine) (active : Bool) :
    (s.takePanelTransition line active).journalSound := by
  unfold State.takePanelTransition State.takePress
  repeat' split
  all_goals simp [h]

@[simp] theorem State.confirmFrame_journalSound (l : Link) (body : List Byte) : (s.confirmFrame l body).journalSound := by
  unfold State.confirmFrame
  dsimp only
  repeat' split
  all_goals simp [h]

@[simp] theorem State.takeFrame_journalSound (l : Link) (q : Request) : (s.takeFrame l q).journalSound := by
  unfold State.takeFrame
  repeat' split
  all_goals simp [h]

@[simp] theorem State.retransmissionExpiry_journalSound (l : Link) : (s.retransmissionExpiry l).journalSound := by
  unfold State.retransmissionExpiry
  split <;> simp [h]

@[simp] theorem State.warmRestart_journalSound : s.warmRestart.journalSound :=
  State.appendBare_journalSound (s := s.warmBlocks) h _ _

/-! ### The owners of the requests -/

@[simp] theorem State.dropAuthority_journalSound (l : Link) : (s.dropAuthority l).journalSound := by
  unfold State.dropAuthority
  split <;> simp [h]

@[simp] theorem State.closeSession_journalSound (l : Link) (act : SessionAction) :
    (s.closeSession l act).journalSound := by
  simp [State.closeSession, h]

@[simp] theorem State.openSession_journalSound (l : Link) : (s.openSession l).journalSound := by
  unfold State.openSession
  dsimp only
  split <;> simp [h]

@[simp] theorem State.claimRequest_journalSound (l : Link) : (s.claimRequest l).1.journalSound := by
  unfold State.claimRequest
  repeat' split
  all_goals simp [h]

@[simp] theorem State.releaseRequest_journalSound (l : Link) : (s.releaseRequest l).1.journalSound := by
  unfold State.releaseRequest
  split <;> simp [h]

@[simp] theorem State.restartRequest_journalSound (l : Link) : (s.restartRequest l).1.journalSound := by
  unfold State.restartRequest
  split <;> simp [h]

@[simp] theorem State.defineGroupRequest_journalSound (l : Link) (arg : Option (Group × GroupDef)) :
    (s.defineGroupRequest l arg).1.journalSound := by
  unfold State.defineGroupRequest
  repeat' split
  all_goals simp [State.accepted, State.turnedAway, State.putGroup, h]

@[simp] theorem State.undefineGroupRequest_journalSound (l : Link) (arg : Option Group) :
    (s.undefineGroupRequest l arg).1.journalSound := by
  unfold State.undefineGroupRequest
  repeat' split
  all_goals simp [State.accepted, State.turnedAway, State.removeGroup, h]

@[simp] theorem State.definePointRequest_journalSound (l : Link) (arg : Option (Point × PointDef)) :
    (s.definePointRequest l arg).1.journalSound := by
  unfold State.definePointRequest
  repeat' split
  all_goals simp [State.accepted, State.turnedAway, State.putPoint, h]

@[simp] theorem State.undefinePointRequest_journalSound (l : Link) (arg : Option Point) :
    (s.undefinePointRequest l arg).1.journalSound := by
  unfold State.undefinePointRequest
  repeat' split
  all_goals simp [State.accepted, State.turnedAway, State.removePoint, h]

@[simp] theorem State.serviceOutRequest_journalSound (l : Link) (arg : Option Point) :
    (s.serviceOutRequest l arg).1.journalSound := by
  unfold State.serviceOutRequest
  repeat' split
  all_goals simp [State.accepted, State.turnedAway, State.takeOut, h]

@[simp] theorem State.putIn_journalSound (l : Link) (p : Point) (d : PointDef) : (s.putIn l p d).journalSound := by
  unfold State.putIn
  dsimp only
  split <;> simp [h]

@[simp] theorem State.serviceInRequest_journalSound (l : Link) (arg : Option Point) :
    (s.serviceInRequest l arg).1.journalSound := by
  unfold State.serviceInRequest
  repeat' split
  all_goals simp [State.accepted, State.turnedAway, h]

@[simp] theorem State.restoreRequest_journalSound (l : Link) (arg : Option Point) :
    (s.restoreRequest l arg).1.journalSound := by
  unfold State.restoreRequest State.restoreByRequest
  repeat' split
  all_goals simp [h]

@[simp] theorem State.setTimeRequest_journalSound (l : Link) (arg : Option Stamp) :
    (s.setTimeRequest l arg).1.journalSound := by
  cases arg with
  | none => exact h
  | some x => exact State.appendBare_journalSound (s := { s with time := x }) h _ _

@[simp] theorem State.operatorRequest_journalSound (kind : ActionKind) (l : Link) (tag : Byte) (zeros : List Byte)
    (scope : Option Scope) : (s.operatorRequest kind l tag zeros scope).1.journalSound := by
  unfold State.operatorRequest State.beginAction
  repeat' split
  all_goals simp [h]

@[simp] theorem State.lampTestRequest_journalSound (l : Link) (seconds : Nat) :
    (s.lampTestRequest l seconds).1.journalSound := by
  unfold State.lampTestRequest
  split <;> simp [h]

@[simp] theorem State.subscribeRequest_journalSound (l : Link) (start : Option Seq) :
    (s.subscribeRequest l start).1.journalSound := by
  unfold State.subscribeRequest
  split <;> simp [h]

@[simp] theorem State.unsubscribeRequest_journalSound (l : Link) : (s.unsubscribeRequest l).1.journalSound := by
  unfold State.unsubscribeRequest
  dsimp only
  split <;> simp [h]

/-! ### Taking a request, running, and time -/

/-- A request leaves the journal sound when its owner does: nothing else of its event appends (10 R174). -/
theorem State.serve_journalSound {l : Link} {k : ReqKind} {sel : Request → Bool}
    {act : Request → State → State × Answer}
    (hact : ∀ q u, u.journalSound → (act q u).1.journalSound) : (s.serve l k sel act).journalSound := by
  unfold State.serve State.whenRunning
  split
  · exact h
  · dsimp only
    split
    case h_2 => exact h
    case h_1 q _ =>
      have hrenewed : (s.renewFor l k).journalSound := by
        unfold State.renewFor
        split <;> simp [h]
      rw [State.settle_frame, State.conclude_frame]
      change ((s.renewFor l k).handle l k q act).1.journalSound
      unfold State.handle
      split
      · exact hrenewed
      · exact hact q _ hrenewed

/-- A request whose owner keeps the whole state, as the reads do. -/
theorem State.serve_reading_journalSound {l : Link} {k : ReqKind} {sel : Request → Bool}
    {act : Request → State → State × Answer} (hact : ∀ q u, (act q u).1 = u) : (s.serve l k sel act).journalSound :=
  State.serve_journalSound h fun q u hu => by rwa [hact q u]

/-- SET TIME appends one record or none, whatever its body reads as. -/
theorem State.serve_setTime_journalSound (l : Link) (parse : Request → Option Stamp) :
    (s.serve l .setTime anyRequest fun q u => u.setTimeRequest l (parse q)).journalSound :=
  State.serve_journalSound h fun q _ hu => State.setTimeRequest_journalSound hu l (parse q)

theorem State.whenRunning_journalSound {f : State → State} (hf : (f s).journalSound) : (s.whenRunning f).journalSound := by
  unfold State.whenRunning
  split
  · exact h
  · exact hf

theorem State.idle_journalSound : s.idle.journalSound := by
  unfold State.idle
  repeat' split
  · exact h
  · rw [State.tick_eq]
    exact h
  · exact h
  · exact h

/-! ### Every command -/

/-- The end of a frame appends nothing but the START record of a restart (10 R176, 08 R148). -/
theorem execTransmitEnd_journalSound {l : Link} {t : State} (ht : execTransmitEnd l s = .next t) : t.journalSound := by
  cases ht
  refine State.whenRunning_journalSound h ?_
  dsimp only
  split
  · exact h
  · rw [State.startTx_journalSound]
    split <;> simp [h]

/-- What any command leaves of the journal. -/
theorem exec_journalSound {c : Instr} {t : State} (ht : exec c s = .next t) : t.journalSound := by
  cases c with
  | coldReset cause rate1 rate0 =>
    rw [exec_coldReset] at ht
    cases ht
    cases s.operator.test.line <;>
      exact LogSound.ofRecordsFrom .cold (List.cons_ne_nil _ _) (Nat.le_of_ble_eq_true rfl)
  | resetAsserted cause => cases ht; exact h
  | inputLineChange p active | panelLineChange line active =>
    cases ht
    dsimp only
    repeat' split
    all_goals simp [h]
  | onDelayExpiry p | offDelayExpiry p | accumulationExpiry p | forgetTimerExpiry p | restartRaise p
  | realertExpiry p | chatterWindowExpiry p | restoreTimerExpiry p | patternCycleWrap | panelPressBegin
  | lampTestHostExpiry | leaseExpiry | retransmissionExpiry l | interByteTimeout l | confirm l body =>
    cases ht
    refine State.whenRunning_journalSound h ?_
    repeat' split
    all_goals simp [h]
  | dayRollover =>
    cases ht
    refine State.whenRunning_journalSound h ?_
    split <;> exact h
  | filteredTransition p | panelFilteredTransition line | byteArrival l data stopGood =>
    cases ht
    refine State.whenRunning_journalSound h ?_
    dsimp only
    repeat' split
    all_goals simp [h]
  | ackWalkEvent src | resetGroupExamine src | resetMemberEvent src | firstOutClearing src =>
    cases ht
    refine State.whenRunning_journalSound h ?_
    simp only [State.ackWalk, State.examineGroup, State.resetMember, State.clearingStage]
    repeat' split
    all_goals simp [h]
  | unknownKindRequest l =>
    cases ht
    refine State.whenRunning_journalSound h ?_
    repeat' split
    all_goals simp [State.conclude, h]
  | transmitEnd l => exact execTransmitEnd_journalSound h ht
  | setTime l => cases ht; exact State.serve_setTime_journalSound h l fun q => timeArg q.body
  | hello l | bye l | claim l | release l | restart l | defineGroup l | undefineGroup l | definePoint l | undefinePoint l
  | setServiceOut l | setServiceIn l | restore l | ack l | reset l | silence l | lampTest l | subscribe l | unsubscribe l =>
    cases ht
    exact State.serve_journalSound h fun _ _ hu => by simp [hu]
  | readStatus l => cases ht; exact State.serve_reading_journalSound h fun _ _ => rfl
  | readPoint l | readGroup l | readList l =>
    cases ht
    exact State.serve_reading_journalSound h fun _ _ => by split <;> rfl
  | readJournal l =>
    cases ht
    refine State.serve_reading_journalSound h fun _ u => ?_
    generalize inRange _ _ _ = most, u.journalStart _ = start
    cases most <;> cases start <;> rfl

end

/-- Settles O4: every command keeps the journal sound, and so does what the part does by itself. -/
theorem journalStaysConsecutive : Obligations.JournalStaysConsecutive := by
  intro s t hs ht
  unfold step at ht
  split at ht
  · next i rest _ => exact exec_journalSound (s := { s with pending := rest }) hs ht
  · cases ht
    exact State.idle_journalSound hs

end Sys2Proof.Machine
end

section
/-! SUPPORT. SET TIME. -/

namespace Sys2Proof.Machine

/-- The time that SET TIME's body carries (08 R138, 12 R190). -/
theorem timeArg_within {d1 d0 m3 m2 m1 m0 : Byte} {ms : Nat}
    (hms : ms = m3.toNat * 16777216 + m2.toNat * 65536 + m1.toNat * 256 + m0.toNat) (h : ms ≤ 86399999) :
    timeArg [d1, d0, m3, m2, m1, m0] = some { day := d1 ++ d0, ms := ms, isSet := true } := by
  have hday : BitVec.ofNat 16 (numberAt2 [d1, d0, m3, m2, m1, m0] 0) = d1 ++ d0 := by
    apply BitVec.eq_of_toNat_eq
    have := d1.isLt
    have := d0.isLt
    simp only [append_byte_toNat, BitVec.toNat_ofNat, numberAt2, byteAt, List.getD_cons_zero, List.getD_cons_succ, Nat.zero_add]
    omega
  have hnumber : numberAt4 [d1, d0, m3, m2, m1, m0] 2 = ms := hms.symm
  rw [timeArg, hnumber, hday]
  exact if_pos h

theorem timeArg_tooLate {d1 d0 m3 m2 m1 m0 : Byte}
    (h : 86400000 ≤ m3.toNat * 16777216 + m2.toNat * 65536 + m1.toNat * 256 + m0.toNat) :
    timeArg [d1, d0, m3, m2, m1, m0] = none :=
  if_neg (Nat.not_le.mpr h)

/-- The state in which TIME_SET is appended: the lease renewed, the time set (08 R138, 11 R182). -/
def State.retimed (s : State) (l : Link) (x : Stamp) : State := { s with session := s.sessionAfter l, time := x }

/-- SET TIME by the time its body carries. The body stays a variable here, so that no number of it is ever computed. -/
theorem Accepts.setsTime {s : State} {l : Link} {tag : Byte} {body : List Byte} (h : Accepts s l .setTime tag body)
    {x : Stamp} (hx : timeArg body = some x) :
    ∃ t, exec (.setTime l) s = .next t ∧
      t = { s with session := s.sessionAfter l, time := x, journal := t.journal, nextSeq := t.nextSeq,
                   chainA := t.chainA, chainB := t.chainB } ∧
      Acts s t l .setTime tag (be4 s.nextSeq.toNat ++ s.time.bytes) [(.timeSet s.time, linkSource l, none, none)] := by
  have hrenew : s.renewFor l .setTime = { s with session := s.sessionAfter l } := s.renewFor_eq l (by decide)
  have hanswer : (s.renewFor l .setTime).setTimeRequest l (timeArg body) =
      ((s.retimed l x).appendBare (.timeSet s.time) (linkSource l), .reply .ok (be4 s.nextSeq.toNat ++ s.time.bytes)) := by
    rw [hrenew, hx]
    rfl
  have happ : Appends s ((s.retimed l x).appendBare (.timeSet s.time) (linkSource l))
      [(.timeSet s.time, linkSource l, none, none)] :=
    .first (u := s.retimed l x) h.journal rfl rfl (State.chain_congr rfl rfl) _ _ none none
  obtain ⟨t, ht, hframe, hacts⟩ := h.acts (c := .setTime l) rfl rfl rfl hanswer happ
  refine ⟨t, ht, ?_, hacts⟩
  rw [hframe]
  exact State.eq_of_fields (by simp [State.appendBare, State.retimed])

/-- Settles O40: the body's six bytes are a day and a millisecond of day, which is within the day or is not. -/
theorem setTimeRecordsThePreviousTime : Obligations.SetTimeRecordsThePreviousTime := by
  intro l tag d1 d0 m3 m2 m1 m0 s h ms
  refine ⟨fun hin => h.setsTime (timeArg_within rfl hin), fun hlate => ?_⟩
  refine h.turnsAway rfl rfl (by decide) (by decide) ?_
  rw [timeArg_tooLate hlate]
  rfl

end Sys2Proof.Machine
end

section
/-! SUPPORT. The invariants at the end of a cold reset from power-on. -/

namespace Sys2Proof.Machine

theorem State.reset_point (p : Point) : State.reset.point p = PointState.cold := by simp [State.point, State.reset]

theorem State.reset_group (g : Group) : State.reset.group g = GroupState.cold := by simp [State.group, State.reset]

theorem State.reset_delivery (l : Link) : (State.reset.chain l).delivery = Delivery.cold := by cases l <;> rfl

theorem State.reset_noEntry {e : Entry} : e ∉ State.reset.alarmList := List.not_mem_nil

theorem State.reset_journalSound : State.reset.journalSound :=
  LogSound.ofRecordsFrom .cold (List.cons_ne_nil (RecordKind.start .power, Source.part, none, none) []) (by decide)

theorem State.reset_listSound : State.reset.listSound :=
  ⟨List.nodup_nil, fun p => iff_of_false (by rw [State.reset_point]; decide) fun ⟨_, he, _⟩ => State.reset_noEntry he,
    fun _ he => absurd he State.reset_noEntry⟩

theorem State.reset_pointsAgree : State.reset.pointsAgree := fun p => by
  rw [State.reset_point]
  exact ⟨nofun, nofun⟩

theorem State.reset_copiesFollow : State.reset.copiesFollow := fun p => by
  rw [State.reset_point]
  rfl

theorem State.reset_authoritySound : State.reset.authoritySound := ⟨Iff.rfl, nofun, nofun⟩

theorem State.reset_deliveriesSound : State.reset.deliveriesSound := fun l => by
  rw [State.reset_delivery]
  exact ⟨fun _ => ⟨rfl, rfl, rfl, rfl⟩, fun h => absurd rfl h⟩

theorem State.reset_countersSound : State.reset.countersSound := ⟨Nat.zero_le _, Nat.zero_le _, nofun⟩

theorem State.reset_marksSound : State.reset.marksSound := by
  refine ⟨fun g p h => ?_, fun _ he => absurd he State.reset_noEntry,
    fun p => iff_of_false ?_ fun ⟨_, he, _⟩ => State.reset_noEntry he⟩
  · rw [State.reset_group] at h
    exact nomatch h
  · rw [State.reset_point]
    decide

theorem State.reset_windowsSound : State.reset.windowsSound := fun l hlive => by
  rw [State.reset_delivery] at hlive
  exact nomatch hlive

/-- Settles O3: every point and group is cold, both deliveries are OFF, and the journal holds the START record alone. -/
theorem resetMeetsTheInvariants : Obligations.ResetMeetsTheInvariants :=
  ⟨State.reset_journalSound, State.reset_listSound, State.reset_pointsAgree, State.reset_copiesFollow,
    State.reset_authoritySound, State.reset_deliveriesSound, State.reset_countersSound, State.reset_marksSound,
    State.reset_windowsSound⟩

end Sys2Proof.Machine
end

section
/-! SUPPORT. Sequence numbers counted along the cycle (08 R142, R144): the number `k` places on, the numbers in between, and the
places that the records of a sound journal have. -/

namespace Sys2Proof.Machine

/-! ### Distances and places -/

theorem one_le_toNat {n : Seq} (h : n ≠ 0) : 1 ≤ n.toNat :=
  Nat.one_le_iff_ne_zero.mpr fun e => h (BitVec.eq_of_toNat_eq e)

@[simp] theorem forward_self (n : Seq) : forward n n = 0 := by simp [forward]

/-- The cycle has 4,294,967,295 numbers (08 R142). -/
theorem forward_lt {a b : Seq} (ha : a ≠ 0) (hb : b ≠ 0) : forward a b < 4294967295 := by
  have := one_le_toNat ha
  have := one_le_toNat hb
  have := b.isLt
  unfold forward
  split <;> omega

theorem forward_seqNext {a b : Seq} (ha : a ≠ 0) (hb : b ≠ 0) (h : forward a b + 1 < 4294967295) :
    forward a (seqNext b) = forward a b + 1 := by
  have := one_le_toNat ha
  have := one_le_toNat hb
  have := a.isLt
  have := b.isLt
  have hnext := seqNext_toNat b
  unfold forward at h ⊢
  split at h <;> split at hnext <;> split <;> omega

theorem seqAfter_succ (k : Nat) (n : Seq) : seqAfter (k + 1) n = seqNext (seqAfter k n) := seqAfter_add k 1 n

theorem forward_seqAfter {a : Seq} (ha : a ≠ 0) {k : Nat} (hk : k < 4294967295) : forward a (seqAfter k a) = k := by
  induction k with
  | zero => exact forward_self a
  | succ k ih =>
    have hdist := ih (by omega)
    rw [seqAfter_succ, forward_seqNext ha (seqAfter_ne_zero k ha) (by omega), hdist]

/-- Every number of the cycle is as many places on as its distance says (08 R144). -/
theorem seqAfter_forward {a b : Seq} (ha : a ≠ 0) (hb : b ≠ 0) : seqAfter (forward a b) a = b :=
  forward_inj ha (seqAfter_ne_zero _ ha) hb (forward_seqAfter ha (forward_lt ha hb))

theorem seqAfter_inj {a : Seq} (ha : a ≠ 0) {i j : Nat} (hi : i < 4294967295) (hj : j < 4294967295)
    (h : seqAfter i a = seqAfter j a) : i = j := by
  rw [← forward_seqAfter ha hi, h, forward_seqAfter ha hj]

theorem seqNext_seqPrev {n : Seq} (hn : n ≠ 0) : seqNext (seqPrev n) = n := by
  have h0 := one_le_toNat hn
  have hlt := n.isLt
  unfold seqPrev
  split
  · next h => rw [h]; decide
  · next h1 =>
    have h1 : n.toNat ≠ 1 := fun e => h1 (BitVec.eq_of_toNat_eq e)
    apply BitVec.eq_of_toNat_eq
    have hprev : (n - 1).toNat = n.toNat - 1 := by
      rw [BitVec.toNat_sub_of_le (show (1 : Seq) ≤ n from h0)]
      rfl
    rw [seqNext_toNat, hprev]
    split <;> omega

theorem seqPrev_ne_zero {n : Seq} (hn : n ≠ 0) : seqPrev n ≠ 0 := by
  intro h
  have hback := seqNext_seqPrev hn
  rw [h] at hback
  rw [← hback] at h
  exact absurd h (by decide)

/-! ### Consecutive numbers -/

theorem seqsFrom_add (i j : Nat) (n : Seq) : seqsFrom (i + j) n = seqsFrom i n ++ seqsFrom j (seqAfter i n) := by
  induction i generalizing n with
  | zero => rw [Nat.zero_add]; rfl
  | succ i ih =>
    rw [Nat.add_right_comm]
    exact congrArg (n :: ·) (ih (seqNext n))

theorem seqsFrom_succ (k : Nat) (n : Seq) : seqsFrom (k + 1) n = seqsFrom k n ++ [seqAfter k n] := seqsFrom_add k 1 n

theorem mem_seqsFrom {k : Nat} {n m : Seq} : m ∈ seqsFrom k n ↔ ∃ i < k, m = seqAfter i n := by
  induction k with
  | zero => simp [seqsFrom]
  | succ k ih =>
    rw [seqsFrom_succ, List.mem_append, ih, List.mem_singleton]
    constructor
    · rintro (⟨i, hi, rfl⟩ | rfl)
      · exact ⟨i, by omega, rfl⟩
      · exact ⟨k, by omega, rfl⟩
    · rintro ⟨i, hi, rfl⟩
      rcases Nat.lt_succ_iff_lt_or_eq.mp hi with h | rfl
      · exact .inl ⟨i, h, rfl⟩
      · exact .inr rfl

/-- Numbers within one turn of the cycle are all different (08 R142). -/
theorem seqsFrom_nodup {n : Seq} (hn : n ≠ 0) {k : Nat} (hk : k ≤ 4294967295) : (seqsFrom k n).Nodup := by
  induction k with
  | zero => exact List.nodup_nil
  | succ k ih =>
    rw [seqsFrom_succ]
    refine List.nodup_append.mpr ⟨ih (by omega), List.nodup_singleton _, fun m hm x hx => ?_⟩
    obtain ⟨i, hi, rfl⟩ := mem_seqsFrom.mp hm
    rw [List.mem_singleton.mp hx]
    exact fun h => absurd (seqAfter_inj hn (by omega) (by omega) h) (by omega)

/-! ### The journal's places -/

/-- The number of the oldest record of a list, or the number after it. -/
def oldestOf (next : Seq) (j : List Record) : Seq := (j.head?.map (·.seq)).getD next

/-- The records of a sound journal have the numbers from the oldest on, and the next append takes the one after them
(08 R142, R143). -/
theorem LogSound.places {next : Seq} {j : List Record} (h : LogSound next j) :
    oldestOf next j ≠ 0 ∧ next = seqAfter j.length (oldestOf next j) ∧
      ∀ i (hi : i < j.length), j[i].seq = seqAfter i (oldestOf next j) := by
  obtain ⟨hne, hlen, h0, hcons⟩ := h
  have hlt : j.length < 4294967295 := Nat.lt_of_le_of_lt hlen (by decide)
  obtain ⟨x, rest, rfl⟩ := List.exists_cons_of_ne_nil hne
  have hx0 : x.seq ≠ 0 := hcons.1
  refine ⟨hx0, ?_, fun i hi => ?_⟩
  · have hdist := consecutive.next _ next hcons hlt x rfl
    exact (seqAfter_forward hx0 h0).symm.trans (congrArg (seqAfter · x.seq) hdist)
  · obtain ⟨hdist, hi0⟩ := consecutive.getElem _ next hcons hlt x rfl i hi
    exact (seqAfter_forward hx0 hi0).symm.trans (congrArg (seqAfter · x.seq) hdist)

end Sys2Proof.Machine
end

section
/-! SUPPORT. The window of a LIVE delivery (09 R152) by the places of its records in the journal, and what offering, a drop, a
CONFIRM and the transmitter make of it. -/

namespace Sys2Proof.Machine

/-! ### The offer list (09 R152) -/

/-- A record offered for the first time (09 R155). -/
def Offer.first (m : Seq) : Offer := { seq := m, isRepeat := false }

/-- A record offered again (09 R161). -/
def Offer.again (m : Seq) : Offer := { seq := m, isRepeat := true }

/-- An offer list over the numbers in flight: some of them in order, repeats ahead of first sendings, the first sendings the last of
those in flight (09 R152). -/
def Offering (offers : List Offer) (flight : List Seq) : Prop :=
  ∃ again first : List Seq, offers = again.map Offer.again ++ first.map Offer.first ∧ (again ++ first).Sublist flight ∧
    first <:+ flight

theorem Offering.nil (flight : List Seq) : Offering [] flight :=
  ⟨[], [], rfl, List.nil_sublist _, List.nil_suffix⟩

/-- The report at the head is sent (09 R156). -/
theorem Offering.tail {o : Offer} {rest : List Offer} {flight : List Seq} (h : Offering (o :: rest) flight) :
    Offering rest flight := by
  obtain ⟨again, first, hlist, hsub, hsuf⟩ := h
  cases again with
  | cons x again =>
    obtain ⟨-, rfl⟩ := List.cons_eq_cons.mp hlist
    exact ⟨again, first, rfl, (List.sublist_cons_self x _).trans hsub, hsuf⟩
  | nil =>
    cases first with
    | nil => cases hlist
    | cons x first =>
      obtain ⟨-, rfl⟩ := List.cons_eq_cons.mp hlist
      exact ⟨[], first, rfl, (List.sublist_cons_self x _).trans hsub, (List.suffix_cons x first).trans hsuf⟩

/-- More records are in flight, and offered (09 R155). -/
theorem Offering.append {offers : List Offer} {flight : List Seq} (h : Offering offers flight) (ns : List Seq) :
    Offering (offers ++ ns.map Offer.first) (flight ++ ns) := by
  obtain ⟨again, first, rfl, hsub, before, rfl⟩ := h
  refine ⟨again, first ++ ns, by simp, ?_, before, by simp⟩
  rw [← List.append_assoc]
  exact hsub.append_right ns

/-- The offers of the records that stay in flight (09 R160, R163). -/
theorem Offering.filter {offers : List Offer} {flight : List Seq} (h : Offering offers flight) (stays : Seq → Bool) :
    Offering (offers.filter fun o => stays o.seq) (flight.filter stays) := by
  obtain ⟨again, first, rfl, hsub, hsuf⟩ := h
  refine ⟨again.filter stays, first.filter stays, ?_, ?_, hsuf.filter stays⟩
  · rw [List.filter_append, List.filter_map, List.filter_map]
    rfl
  · rw [← List.filter_append]
    exact hsub.filter stays

/-- The whole flight offered again: those that wait as first sendings, the last of the flight, stay first sendings (09 R161). -/
theorem Offering.repeated {offers : List Offer} {flight : List Seq} (h : Offering offers flight) (hn : flight.Nodup) :
    Offering (flight.map fun n => { seq := n, isRepeat := !offers.contains { seq := n, isRepeat := false } }) flight := by
  obtain ⟨again, first, rfl, -, before, rfl⟩ := h
  have hfirst (n : Seq) : (again.map Offer.again ++ first.map Offer.first).contains { seq := n, isRepeat := false } =
      decide (n ∈ first) := by
    rw [List.contains_eq_mem]
    simp [Offer.again, Offer.first]
  obtain ⟨-, -, hdisjoint⟩ := List.nodup_append.mp hn
  refine ⟨before, first, ?_, List.Sublist.refl _, before, rfl⟩
  simp only [hfirst, List.map_append]
  congr 1
  · refine List.map_congr_left fun n hb => ?_
    have hnot : n ∉ first := fun hf => hdisjoint n hb n hf rfl
    simp [Offer.again, hnot]
  · exact List.map_congr_left fun n hf => by simp [Offer.first, hf]

/-! ### The window -/

/-- A delivery with `k` records in flight after `c`, the first of them at place `j` of a journal of `count` records from `oldest`
on; next is held or the number after the journal (09 R152, R155). -/
structure Delivery.Window (oldest : Seq) (count : Nat) (d : Delivery) (c : Seq) (k j : Nat) : Prop where
  confirmed : d.confirmed = some c
  next : d.next = some (seqAfter (k + 1) c)
  nonzero : c ≠ 0
  most : k ≤ 4
  place : seqNext c = seqAfter j oldest
  within : j + k ≤ count
  offers : Offering d.offers (seqsFrom k (seqNext c))
  timer : d.timer.isSome = true ↔ 0 < k
  length : ∀ n, d.timer = some n → n ≤ 500
  retry : d.retry ≤ 4

/-- The count of records in flight (09 R152). -/
theorem Delivery.inFlight_of_next {d : Delivery} {c : Seq} {k : Nat} (hc : d.confirmed = some c)
    (hn : d.next = some (seqAfter (k + 1) c)) (h0 : c ≠ 0) (hk : k ≤ 4) : d.inFlight = k := by
  rw [Delivery.inFlight, hc, hn]
  dsimp only
  rw [forward_seqAfter h0 (by omega), Nat.add_sub_cancel]

/-- The count of records in flight is one less than the distance from confirmed to next (09 R152). -/
theorem Delivery.inFlight_eq {d : Delivery} {c n : Seq} (hc : d.confirmed = some c) (hn : d.next = some n) :
    d.inFlight = forward c n - 1 := by
  rw [Delivery.inFlight, hc, hn]

/-- A CONFIRM of a number in flight (09 R160). -/
theorem Delivery.confirm_advances {d : Delivery} {c n nx : Seq} (hs : d.state = .live) (hc : d.confirmed = some c)
    (hn : d.next = some nx) (h0 : n ≠ 0) (hpos : 0 < forward c n) (hlt : forward c n < forward c nx) :
    d.confirm n =
      { state := .live, confirmed := some n, next := some nx, retry := 0,
        timer := if forward n nx ≤ 1 then none else some Config.retransmissionMs,
        offers := d.offers.filter fun o => decide (forward c n < forward c o.seq) } := by
  have hflies : d.flies n = true := by
    simp only [Delivery.flies, hc, hn, decide_eq_true h0, decide_eq_true hpos, decide_eq_true hlt, Bool.and_self]
  simp only [Delivery.confirm, hc, hs, hflies, and_self, if_true, hn]
  rw [Delivery.inFlight_eq rfl rfl]
  simp only [Nat.sub_eq_zero_iff_le]

/-- A CONFIRM of any other number (09 R160). -/
theorem Delivery.confirm_ignored {d : Delivery} {n : Seq} (h : ¬ (d.state = .live ∧ d.flies n = true)) : d.confirm n = d := by
  unfold Delivery.confirm
  split
  · exact if_neg h
  · rfl

/-- The drop of the record just after confirmed (09 R163). -/
theorem Delivery.drop_moves {d : Delivery} {m c n : Seq} (hs : d.state = .live) (hc : d.confirmed = some c)
    (hn : d.next = some n) (hm : seqNext c = m) :
    d.drop m =
      { d with confirmed := some m, next := some (if n = m then seqNext m else n),
               offers := d.offers.filter fun o => decide (o.seq ≠ m),
               timer := if forward m (if n = m then seqNext m else n) ≤ 1 then none else d.timer } := by
  have hnext : (if d.next = some m then some (seqNext m) else d.next) = some (if n = m then seqNext m else n) := by
    rw [hn, ← apply_ite some]
    simp only [Option.some.injEq]
  simp only [Delivery.drop, hc, hs, hm, and_self, if_true, hnext]
  rw [Delivery.inFlight_eq rfl rfl]
  simp only [Nat.sub_eq_zero_iff_le]

/-- The drop of any other record (09 R163). -/
theorem Delivery.drop_elsewhere {d : Delivery} {m : Seq} (h : ∀ c, d.confirmed = some c → seqNext c ≠ m) : d.drop m = d := by
  unfold Delivery.drop
  split
  · next c hc => exact if_neg fun hm => h c hc hm.2
  · rfl

section
variable {oldest : Seq} {count : Nat} {d : Delivery} {c : Seq} {k j : Nat}

theorem Delivery.Window.inFlight (h : d.Window oldest count c k j) : d.inFlight = k :=
  Delivery.inFlight_of_next h.confirmed h.next h.nonzero h.most

theorem Delivery.Window.flight (h : d.Window oldest count c k j) : d.flight = seqsFrom k (seqNext c) := by
  rw [Delivery.flight, h.confirmed, h.inFlight]

/-- The number next stands `k` places after the first in flight. -/
theorem Delivery.Window.next_place (h : d.Window oldest count c k j) : seqAfter (k + 1) c = seqAfter (j + k) oldest := by
  rw [Nat.add_comm k 1, seqAfter_add 1 k, seqAfter_add j k, ← h.place]
  rfl

/-- The journal has one record more (08 R143). -/
theorem Delivery.Window.grow (h : d.Window oldest count c k j) : d.Window oldest (count + 1) c k j :=
  { h with within := Nat.le_succ_of_le h.within }

/-! ### What leaves the records in flight -/

/-- A report leaves the offer list (09 R156). -/
theorem Delivery.Window.send (h : d.Window oldest count c k j) {o : Offer} {rest : List Offer} (ho : d.offers = o :: rest) :
    Delivery.Window oldest count { d with offers := rest } c k j :=
  { h with offers := (ho ▸ h.offers).tail }

/-- The whole window is offered again (09 R161). -/
theorem Delivery.Window.retransmit (h : d.Window oldest count c k j) (hr : d.retry < 4) (ht : d.timer.isSome = true) :
    Delivery.Window oldest count d.retransmit c k j :=
  { h with
    offers := by
      rw [Delivery.retransmit, h.flight]
      exact h.offers.repeated (seqsFrom_nodup (seqNext_ne_zero c) (h.most.trans (by decide)))
    timer := iff_of_true rfl (h.timer.mp ht)
    length := fun n hn => (Option.some.inj hn).symm.le
    retry := hr }

/-- A millisecond passes (09 R152). -/
theorem Delivery.Window.tick (h : d.Window oldest count c k j) :
    Delivery.Window oldest count { d with timer := countDown d.timer } c k j := by
  refine { h with timer := ?_, length := fun n hn => ?_ }
  · rw [← h.timer]
    cases d.timer <;> exact Iff.rfl
  · cases htimer : d.timer with
    | none => simp [htimer, countDown] at hn
    | some m =>
      have := h.length m htimer
      simp only [htimer, countDown, Option.some.injEq] at hn
      omega

/-! ### CONFIRM (09 R160) -/

/-- The offers of the first `i` numbers in flight are taken out, those behind them stay. -/
theorem seqsFrom_filter_forward (hc : c ≠ 0) {i : Nat} (hi : i ≤ k) (hk : k ≤ 4) :
    (seqsFrom k (seqNext c)).filter (fun m => decide (i < forward c m)) = seqsFrom (k - i) (seqAfter (i + 1) c) := by
  have hsplit : seqsFrom k (seqNext c) = seqsFrom i (seqNext c) ++ seqsFrom (k - i) (seqAfter (i + 1) c) := by
    rw [Nat.add_comm i 1, seqAfter_add 1 i, show seqAfter 1 c = seqNext c from rfl, ← seqsFrom_add, Nat.add_sub_cancel' hi]
  have hdist (x : Nat) (hx : x < 5) : forward c (seqAfter x (seqNext c)) = x + 1 :=
    forward_seqAfter (k := x + 1) hc (by omega)
  rw [hsplit, List.filter_append, List.filter_eq_nil_iff.mpr, List.filter_eq_self.mpr, List.nil_append]
  · intro m hm
    obtain ⟨x, hx, rfl⟩ := mem_seqsFrom.mp hm
    have hsum : seqAfter x (seqAfter (i + 1) c) = seqAfter (i + x) (seqNext c) := by
      rw [← seqAfter_add, Nat.add_right_comm]
      rfl
    rw [hsum, hdist _ (by omega)]
    exact decide_eq_true (by omega)
  · intro m hm
    obtain ⟨x, hx, rfl⟩ := mem_seqsFrom.mp hm
    rw [hdist x (by omega), decide_eq_true_eq]
    omega

theorem Delivery.Window.confirm (h : d.Window oldest count c k j) (n : Seq) :
    ∃ c' k' j', Delivery.Window oldest count (d.confirm n) c' k' j' := by
  by_cases hadvances : d.state = .live ∧ d.flies n = true
  case neg => exact ⟨c, k, j, by rwa [Delivery.confirm_ignored hadvances]⟩
  case pos =>
    obtain ⟨hlive, hflies⟩ := hadvances
    simp only [Delivery.flies, h.confirmed, h.next, Bool.and_eq_true, decide_eq_true_eq] at hflies
    obtain ⟨⟨hn0, hpos⟩, hlt⟩ := hflies
    have hequation := Delivery.confirm_advances hlive h.confirmed h.next hn0 hpos hlt
    have hmost := h.most
    have hwithin := h.within
    rw [forward_seqAfter h.nonzero (by omega)] at hlt
    generalize hi : forward c n = i at hpos hlt hequation
    have hn : n = seqAfter i c := by rw [← hi, seqAfter_forward h.nonzero hn0]
    have hnext : seqAfter (k + 1) c = seqAfter (k - i + 1) n := by
      rw [hn, ← seqAfter_add]
      exact congrArg (seqAfter · c) (by omega)
    have hafter : seqNext n = seqAfter (i + 1) c := by rw [hn, seqAfter_succ]
    have hplace : seqNext n = seqAfter (j + i) oldest := by
      rw [hafter, Nat.add_comm i 1, seqAfter_add 1 i, seqAfter_add j i, ← h.place]
      rfl
    have hoffers := h.offers.filter fun m => decide (i < forward c m)
    rw [seqsFrom_filter_forward h.nonzero (by omega) hmost, ← hafter] at hoffers
    rw [hnext, forward_seqAfter hn0 (by omega)] at hequation
    refine ⟨n, k - i, j + i, ?_⟩
    rw [hequation]
    refine ⟨rfl, rfl, hn0, by omega, hplace, by omega, hoffers, ?_, fun m hm => ?_, Nat.zero_le _⟩
    · dsimp only
      split
      · exact iff_of_false nofun (by omega)
      · exact iff_of_true rfl (by omega)
    · dsimp only at hm
      split at hm
      · cases hm
      · exact (Option.some.inj hm).symm.le

/-! ### The drop of the oldest record (09 R163) -/

/-- The offer of the first number in flight is taken out, those behind it stay. -/
theorem seqsFrom_filter_ne {a : Seq} (ha : a ≠ 0) (hk : k ≤ 4294967295) :
    (seqsFrom k a).filter (fun m => decide (m ≠ a)) = seqsFrom (k - 1) (seqNext a) := by
  cases k with
  | zero => rfl
  | succ k =>
    have hnodup : (a :: seqsFrom k (seqNext a)).Nodup := seqsFrom_nodup (k := k + 1) ha hk
    have hnot := (List.nodup_cons.mp hnodup).1
    rw [seqsFrom, List.filter_cons_of_neg (by simp), List.filter_eq_self.mpr]
    · rfl
    · exact fun m hm => decide_eq_true fun e => hnot (e ▸ hm)

theorem Delivery.Window.drop (h : d.Window oldest count c k j) (hs : d.state = .live) (ho : oldest ≠ 0)
    (hcount : count ≤ Config.journalCapacity) :
    ∃ c' k' j', Delivery.Window (seqNext oldest) count (d.drop oldest) c' k' j' := by
  have hwithin := h.within
  have hmost := h.most
  have hcap : Config.journalCapacity = 1024 := rfl
  cases j with
  | succ j =>
    have hne : seqNext c ≠ oldest := fun e => by
      have := seqAfter_inj ho (i := j + 1) (j := 0) (by omega) (by omega) (h.place.symm.trans e)
      omega
    refine ⟨c, k, j, ?_⟩
    rw [Delivery.drop_elsewhere fun x hx => by rw [h.confirmed] at hx; exact Option.some.inj hx ▸ hne]
    exact { h with place := h.place, within := by omega }
  | zero =>
    have hfirst : seqNext c = oldest := h.place
    have hempty : seqAfter (k + 1) c = oldest ↔ k = 0 := by
      rw [← hfirst]
      refine ⟨fun e => ?_, fun e => by rw [e]; rfl⟩
      have := seqAfter_inj h.nonzero (i := k + 1) (j := 1) (by omega) (by omega) e
      omega
    have hnext : (if seqAfter (k + 1) c = oldest then seqNext oldest else seqAfter (k + 1) c) = seqAfter (k - 1 + 1) oldest := by
      split
      · next e => rw [hempty.mp e]; rfl
      · next e =>
        have hk : k ≠ 0 := fun hk => e (hempty.mpr hk)
        rw [← hfirst, Nat.sub_add_cancel (by omega)]
        rfl
    have hoffers := h.offers.filter fun m => decide (m ≠ oldest)
    rw [hfirst, seqsFrom_filter_ne ho (hmost.trans (by decide))] at hoffers
    have hequation := Delivery.drop_moves hs h.confirmed h.next hfirst
    rw [hnext, forward_seqAfter ho (by omega)] at hequation
    refine ⟨oldest, k - 1, 0, ?_⟩
    rw [hequation]
    refine ⟨rfl, rfl, ho, by omega, rfl, by omega, hoffers, ?_, fun m hm => ?_, h.retry⟩
    · dsimp only
      split
      · exact iff_of_false nofun (by omega)
      · rw [h.timer]
        omega
    · dsimp only at hm
      split at hm
      · cases hm
      · exact h.length m hm

/-! ### Offering (09 R155) -/

/-- A delivery with `k` records in flight after `c` that has offered `a` more. -/
def Delivery.extended (d : Delivery) (c : Seq) (k a : Nat) : Delivery :=
  { d with
    next := some (seqAfter (k + a + 1) c), offers := d.offers ++ (seqsFrom a (seqAfter (k + 1) c)).map Offer.first,
    timer := if k = 0 ∧ 0 < a then some Config.retransmissionMs else d.timer }

theorem Delivery.extended_zero (hn : d.next = some (seqAfter (k + 1) c)) : d.extended c k 0 = d := by
  simp [Delivery.extended, seqsFrom, ← hn]

theorem Delivery.extended_succ (a : Nat) : (d.extended c k 1).extended c (k + 1) a = d.extended c k (a + 1) := by
  have hcount : k + 1 + a = k + (a + 1) := by omega
  simp only [Delivery.extended, hcount, seqsFrom, List.map_cons, List.map_nil, List.append_assoc, List.singleton_append,
    ← seqAfter_succ]
  congr 1
  simp

/-- One more record is offered while the window has room and the journal holds next; else nothing (09 R155). -/
theorem Delivery.offerOne_eq {held : Seq → Bool} (hs : d.state = .live) (hc : d.confirmed = some c)
    (hn : d.next = some (seqAfter (k + 1) c)) (h0 : c ≠ 0) (hk : k ≤ 4) :
    d.offerOne held = if k < 4 ∧ held (seqAfter (k + 1) c) = true then d.extended c k 1 else d := by
  have hcount := Delivery.inFlight_of_next hc hn h0 hk
  simp only [Delivery.offerOne, hn, hs, hcount, true_and, Delivery.extended, seqAfter_succ (k + 1), seqsFrom, List.map_cons,
    List.map_nil, Offer.first, Nat.one_pos, and_true]
  rfl

theorem Delivery.offerUpTo_of_offerOne {held : Seq → Bool} (h : d.offerOne held = d) (m : Nat) : d.offerUpTo held m = d := by
  induction m with
  | zero => rfl
  | succ m ih => rw [Delivery.offerUpTo, h, ih]

/-- Offering goes on until as many records as may be have been offered, the window is full, or next is the number after the journal
(09 R155). -/
theorem Delivery.offerUpTo_eq {held : Seq → Bool}
    (hheld : ∀ i ≤ count, held (seqAfter i oldest) = decide (i < count)) {i : Nat} (hs : d.state = .live)
    (hc : d.confirmed = some c) (hn : d.next = some (seqAfter (k + 1) c)) (h0 : c ≠ 0) (hk : k ≤ 4)
    (hi : seqAfter (k + 1) c = seqAfter i oldest) (hle : i ≤ count) (m : Nat) :
    ∃ a, a ≤ m ∧ k + a ≤ 4 ∧ i + a ≤ count ∧ (a = m ∨ k + a = 4 ∨ i + a = count) ∧
      d.offerUpTo held m = d.extended c k a := by
  induction m generalizing d k i with
  | zero => exact ⟨0, Nat.le_refl 0, hk, hle, .inl rfl, (Delivery.extended_zero hn).symm⟩
  | succ m ih =>
    have hone := Delivery.offerOne_eq (held := held) hs hc hn h0 hk
    simp only [hi, hheld i hle, decide_eq_true_eq] at hone
    by_cases hroom : k < 4 ∧ i < count
    · rw [if_pos hroom] at hone
      have hstep : seqAfter (k + 1 + 1) c = seqAfter (i + 1) oldest := by
        rw [seqAfter_succ (k + 1), hi, seqAfter_succ i]
      obtain ⟨a, ham, hka, hia, hstop, heq⟩ :=
        ih (d := d.extended c k 1) (k := k + 1) (i := i + 1) hs hc rfl (by omega) hstep (by omega)
      refine ⟨a + 1, by omega, by omega, by omega, by omega, ?_⟩
      rw [Delivery.offerUpTo, hone, heq, Delivery.extended_succ]
    · rw [if_neg hroom] at hone
      exact ⟨0, by omega, by omega, by omega, by omega,
        (Delivery.offerUpTo_of_offerOne hone _).trans (Delivery.extended_zero hn).symm⟩

/-- After the offers of an event, the window is full or next is the number after the journal (09 R155). -/
theorem Delivery.Window.offered (h : d.Window oldest count c k j) (hs : d.state = .live) {held : Seq → Bool}
    (hheld : ∀ i ≤ count, held (seqAfter i oldest) = decide (i < count)) :
    ∃ k', Delivery.Window oldest count (d.offerUpTo held Config.deliveryWindow) c k' j ∧ (k' = 4 ∨ j + k' = count) := by
  obtain ⟨a, -, hka, hja, hstop, heq⟩ :=
    Delivery.offerUpTo_eq hheld hs h.confirmed h.next h.nonzero h.most h.next_place h.within Config.deliveryWindow
  have hwindow : Config.deliveryWindow = 4 := rfl
  refine ⟨k + a, ?_, by omega⟩
  rw [heq]
  refine ⟨h.confirmed, rfl, h.nonzero, hka, h.place, by omega, ?_, ?_, fun n hn => ?_, h.retry⟩
  · rw [seqsFrom_add]
    exact h.offers.append _
  · change (if k = 0 ∧ 0 < a then some Config.retransmissionMs else d.timer).isSome = true ↔ _
    split
    · exact iff_of_true rfl (by omega)
    · rw [h.timer]
      omega
  · change (if k = 0 ∧ 0 < a then some Config.retransmissionMs else d.timer) = some n at hn
    split at hn
    · exact (Option.some.inj hn).symm.le
    · exact h.length n hn

/-- A delivery that starts with nothing in flight (09 R158). -/
theorem Delivery.Window.start (h0 : c ≠ 0) (hplace : seqNext c = seqAfter j oldest) (hj : j ≤ count) :
    (Delivery.startFrom c (seqNext c)).Window oldest count c 0 j :=
  ⟨rfl, rfl, h0, by omega, hplace, hj, .nil _, iff_of_false nofun (Nat.lt_irrefl 0), nofun, Nat.zero_le _⟩

end

end Sys2Proof.Machine
end

section
/-! SUPPORT. What report delivery reads (09): the journal, both deliveries and the sessions, the changes that an event makes of
them, and what every change keeps. -/

namespace Sys2Proof.Machine

/-! ### What report delivery reads -/

/-- The journal with the number after it, the two deliveries, and whether each session is open (08 R143, 09 R152, 10 R177). -/
structure Feed where
  journal : List Record
  nextSeq : Seq
  delivery : Link → Delivery
  isOpen : Link → Bool

def State.feed (s : State) : Feed :=
  { journal := s.journal, nextSeq := s.nextSeq, delivery := fun l => (s.chain l).delivery, isOpen := s.session.isOpen }

/-- The number of the oldest record held (08 R143). -/
def Feed.oldest (v : Feed) : Seq := oldestOf v.nextSeq v.journal

/-- Whether the journal holds a record with number `n` (08 Table 8-3). -/
def Feed.held (v : Feed) (n : Seq) : Bool := decide (forward v.oldest n + 1 ≤ v.journal.length)

theorem State.feed_held (s : State) : s.feed.held = s.isHeld := rfl

theorem State.feed_congr {s t : State} (hj : t.journal = s.journal) (hn : t.nextSeq = s.nextSeq)
    (hc : ∀ l, (t.chain l).delivery = (s.chain l).delivery) (ho : t.session.isOpen = s.session.isOpen) : t.feed = s.feed := by
  simp only [State.feed, hj, hn, hc, ho]

/-- The journal and its numbers are sound (08 R142, R143). -/
def Feed.logSound (v : Feed) : Prop := LogSound v.nextSeq v.journal

theorem State.feed_logSound (s : State) : s.feed.logSound ↔ s.journalSound := Iff.rfl

theorem Feed.places {v : Feed} (h : v.logSound) : v.oldest ≠ 0 ∧ v.nextSeq = seqAfter v.journal.length v.oldest ∧
    ∀ i (hi : i < v.journal.length), v.journal[i].seq = seqAfter i v.oldest := LogSound.places h

/-- In a sound journal the numbers held are those at the places of its records (08 R143, R144). -/
theorem Feed.held_place {v : Feed} (h : v.logSound) {i : Nat} (hi : i < 4294967295) :
    v.held (seqAfter i v.oldest) = decide (i < v.journal.length) := by
  obtain ⟨h0, -, -⟩ := Feed.places h
  rw [Feed.held, forward_seqAfter h0 hi]
  rfl

/-- Of the numbers from the oldest to the one after the journal, only that last one is not held. -/
theorem Feed.held_places {v : Feed} (h : v.logSound) :
    ∀ i ≤ v.journal.length, v.held (seqAfter i v.oldest) = decide (i < v.journal.length) := by
  intro i hi
  have hlen : v.journal.length ≤ 1024 := h.2.1
  exact Feed.held_place h (by omega)

/-- A number held, or the number after the journal, has a place. -/
theorem Feed.place_of_held {v : Feed} (h : v.logSound) {n : Seq} (hn : n ≠ 0) (hp : v.held n = true ∨ n = v.nextSeq) :
    ∃ i ≤ v.journal.length, n = seqAfter i v.oldest := by
  obtain ⟨h0, hnext, -⟩ := Feed.places h
  rcases hp with hp | hp
  · have hlt : forward v.oldest n + 1 ≤ v.journal.length := of_decide_eq_true hp
    exact ⟨forward v.oldest n, by omega, (seqAfter_forward h0 hn).symm⟩
  · exact ⟨v.journal.length, le_refl _, hp.trans hnext⟩

/-- Records in flight that are all held stand in the journal one after the other. -/
theorem Feed.flight_place {v : Feed} (h : v.logSound) {c : Seq} {k : Nat} (hk : k ≤ 4)
    (hflight : ∀ m ∈ seqsFrom k (seqNext c), v.held m = true) (hend : k = 4 ∨ seqAfter (k + 1) c = v.nextSeq) :
    ∃ j, seqNext c = seqAfter j v.oldest ∧ j + k ≤ v.journal.length ∧ (k = 4 ∨ j + k = v.journal.length) := by
  have hcap : Config.journalCapacity = 1024 := rfl
  obtain ⟨-, hlen, -, -⟩ := id h
  obtain ⟨h0, hnext, -⟩ := Feed.places h
  cases k with
  | zero =>
    have hc : seqNext c = v.nextSeq := hend.resolve_left (by omega)
    exact ⟨v.journal.length, hc.trans hnext, le_refl _, .inr rfl⟩
  | succ k =>
    have hfirst := hflight _ (mem_seqsFrom.mpr ⟨0, by omega, rfl⟩)
    have hlast := hflight _ (mem_seqsFrom.mpr ⟨k, by omega, rfl⟩)
    obtain ⟨j, hj, hplace⟩ := Feed.place_of_held h (seqNext_ne_zero c) (.inl hfirst)
    rw [hplace, ← seqAfter_add, Feed.held_place h (by omega), decide_eq_true_eq] at hlast
    refine ⟨j, hplace, by omega, hend.imp_right fun hn => ?_⟩
    refine seqAfter_inj h0 (by omega) (by omega) ?_
    rw [← hnext, ← hn, seqAfter_add, ← hplace]
    rfl

/-! ### The changes of an event -/

/-- One delivery replaced. -/
def Feed.deliver (v : Feed) (l : Link) (d : Delivery) : Feed := { v with delivery := Function.update v.delivery l d }

/-- One record appended, the oldest of a full journal dropped for it, and the drop told to both deliveries (08 R145, 09 R163). -/
def Feed.record (v : Feed) (r : Record) : Feed :=
  { v with
    journal := (if v.journal.length < Config.journalCapacity then v.journal else v.journal.tail) ++ [r],
    nextSeq := seqNext v.nextSeq,
    delivery := fun l => if v.journal.length < Config.journalCapacity then v.delivery l else (v.delivery l).drop v.oldest }

/-- A change that an event makes before its offers: a record, a delivery closed or fallen SILENT, a CONFIRM, a subscription under an
open session, a session opened, or closed with the delivery OFF (08 R145; 09 R158 to R163; 10 R178, R179). -/
inductive FeedChange : Feed → Feed → Prop where
  | record (v : Feed) (r : Record) (h : r.seq = v.nextSeq) : FeedChange v (v.record r)
  | closes (v : Feed) (l : Link) : FeedChange v (v.deliver l (v.delivery l).close)
  | fallsSilent (v : Feed) (l : Link) (h : (v.delivery l).state = .live) : FeedChange v (v.deliver l (v.delivery l).fallSilent)
  | confirms (v : Feed) (l : Link) (n : Seq) : FeedChange v (v.deliver l ((v.delivery l).confirm n))
  | starts (v : Feed) (l : Link) (c n : Seq) (ho : v.isOpen l = true)
      (h : v.logSound → c ≠ 0 ∧ n = seqNext c ∧ ∃ j ≤ v.journal.length, seqNext c = seqAfter j v.oldest) :
    FeedChange v (v.deliver l (.startFrom c n))
  | opens (v : Feed) (l : Link) : FeedChange v { v with isOpen := Function.update v.isOpen l true }
  | leaves (v : Feed) (l : Link) (h : (v.delivery l).state = .off) :
    FeedChange v { v with isOpen := Function.update v.isOpen l false }

/-- Changes one after the other. -/
def FeedChanges : Feed → Feed → Prop := Relation.ReflTransGen FeedChange

/-- What happens to one delivery aside from the changes and the offers of events: a report is sent, the window is offered again, a
millisecond passes (09 R152, R156, R161). -/
inductive Delivery.Goes : Delivery → Delivery → Prop where
  | sends {d : Delivery} {o : Offer} {rest : List Offer} (h : d.offers = o :: rest) : d.Goes { d with offers := rest }
  | retransmits {d : Delivery} (hs : d.state = .live) (hr : d.retry < 4) (ht : d.timer.isSome = true) : d.Goes d.retransmit
  | ticks (d : Delivery) : d.Goes { d with timer := countDown d.timer }

/-- From `v` to `w` journal and sessions stand, and each delivery goes its own way. -/
structure GoesOn (v w : Feed) : Prop where
  journal : w.journal = v.journal
  nextSeq : w.nextSeq = v.nextSeq
  isOpen : w.isOpen = v.isOpen
  delivery : ∀ l, Relation.ReflTransGen Delivery.Goes (v.delivery l) (w.delivery l)

theorem GoesOn.rfl' (v : Feed) : GoesOn v v := ⟨rfl, rfl, rfl, fun _ => .refl⟩

theorem GoesOn.of_eq {v w : Feed} (h : w = v) : GoesOn v w := h ▸ .rfl' v

theorem GoesOn.trans {u v w : Feed} (h : GoesOn u v) (k : GoesOn v w) : GoesOn u w :=
  ⟨k.journal.trans h.journal, k.nextSeq.trans h.nextSeq, k.isOpen.trans h.isOpen, fun l => (h.delivery l).trans (k.delivery l)⟩

/-- What an event does of a state's journal, deliveries and sessions: nothing but what deliveries do on their own; or changes, then
the offers (09 R155), then what deliveries do on their own; or, at a restart, both deliveries are OFF (09 R153). -/
inductive FeedEvent (s t : State) : Prop where
  | goesOn (h : GoesOn s.feed t.feed)
  | ends (u : State) (h : FeedChanges s.feed u.feed) (k : GoesOn u.offer.feed t.feed)
  | stops (h : ∀ l, (t.chain l).delivery.state = .off ∧ (t.chain l).delivery.restsQuietly)

/-! ### Idle deliveries (09 R152) -/

theorem Feed.deliver_delivery (v : Feed) (l m : Link) (d : Delivery) :
    (v.deliver l d).delivery m = if m = l then d else v.delivery m := Function.update_apply v.delivery l d m

/-- Each delivery rests quietly, and is LIVE or SILENT only under an open session. -/
def Feed.deliveriesSound (v : Feed) : Prop :=
  ∀ l, (v.delivery l).restsQuietly ∧ ((v.delivery l).state ≠ .off → v.isOpen l = true)

theorem State.feed_deliveriesSound (s : State) : s.feed.deliveriesSound ↔ s.deliveriesSound := Iff.rfl

theorem Delivery.close_restsQuietly (d : Delivery) : d.close.restsQuietly := fun _ => ⟨rfl, rfl, rfl, rfl⟩

theorem Delivery.restsQuietly_of_live {d : Delivery} (h : d.state = .live) : d.restsQuietly := fun hn => absurd h hn

theorem Feed.deliveriesSound.deliver {v : Feed} (hv : v.deliveriesSound) (l : Link) {d : Delivery} (hd : d.restsQuietly)
    (ho : d.state ≠ .off → v.isOpen l = true) : (v.deliver l d).deliveriesSound := by
  intro m
  rw [Feed.deliver_delivery]
  split
  · next hm =>
    subst hm
    exact ⟨hd, ho⟩
  · exact hv m

/-- A delivery changed in a way that leaves an idle one alone and keeps the state. -/
theorem Delivery.restsQuietly.of_idle {d e : Delivery} (h : d.restsQuietly) (hs : e.state = d.state)
    (hidle : d.state ≠ .live → e = d) : e.restsQuietly := by
  intro hn
  have he := hidle (hs ▸ hn)
  rw [he] at hn ⊢
  exact h hn

theorem Delivery.confirm_state (n : Seq) (d : Delivery) : (d.confirm n).state = d.state := by
  unfold Delivery.confirm
  repeat' split
  all_goals rfl

theorem Delivery.confirm_idle (n : Seq) (d : Delivery) (h : d.state ≠ .live) : d.confirm n = d :=
  Delivery.confirm_ignored fun hlive => h hlive.1

theorem FeedChange.deliveriesSound {v w : Feed} (h : FeedChange v w) (hv : v.deliveriesSound) : w.deliveriesSound := by
  cases h with
  | record r _ =>
    intro l
    obtain ⟨hquiet, hopen⟩ := hv l
    dsimp only [Feed.record]
    split
    · exact hv l
    · exact ⟨hquiet.of_idle (Delivery.drop_state _ _) (Delivery.drop_idle _ _), fun hn => hopen (by simpa using hn)⟩
  | closes l => exact hv.deliver l (Delivery.close_restsQuietly _) fun hn => absurd rfl hn
  | fallsSilent l hlive => exact hv.deliver l (fun _ => ⟨rfl, rfl, rfl, rfl⟩) fun _ => (hv l).2 (by rw [hlive]; decide)
  | confirms l n =>
    obtain ⟨hquiet, hopen⟩ := hv l
    exact hv.deliver l (hquiet.of_idle (Delivery.confirm_state n _) (Delivery.confirm_idle n _)) fun hn =>
      hopen (by rwa [Delivery.confirm_state] at hn)
  | starts l c n ho _ => exact hv.deliver l (Delivery.restsQuietly_of_live rfl) fun _ => ho
  | opens l =>
    intro m
    obtain ⟨hquiet, hopen⟩ := hv m
    refine ⟨hquiet, fun hn => ?_⟩
    dsimp only
    rw [Function.update_apply]
    split
    · rfl
    · exact hopen hn
  | leaves l hoff =>
    intro m
    obtain ⟨hquiet, hopen⟩ := hv m
    refine ⟨hquiet, fun hn => ?_⟩
    dsimp only
    rw [Function.update_apply]
    split
    · next hm => exact absurd (hm ▸ hoff) hn
    · exact hopen hn

theorem Delivery.Goes.keeps {d e : Delivery} (h : d.Goes e) : e.state = d.state ∧ (d.restsQuietly → e.restsQuietly) := by
  cases h with
  | sends ho =>
    refine ⟨rfl, fun hq hn => ?_⟩
    obtain ⟨-, hnone, -, -⟩ := hq hn
    rw [ho] at hnone
    cases hnone
  | retransmits hs _ _ => exact ⟨rfl, fun _ => Delivery.restsQuietly_of_live hs⟩
  | ticks =>
    refine ⟨rfl, fun hq hn => ?_⟩
    obtain ⟨hnext, ho, ht, hr⟩ := hq hn
    exact ⟨hnext, ho, by dsimp only; rw [ht]; rfl, hr⟩

theorem Delivery.goes_keeps {d e : Delivery} (h : Relation.ReflTransGen Delivery.Goes d e) :
    e.state = d.state ∧ (d.restsQuietly → e.restsQuietly) := by
  induction h with
  | refl => exact ⟨rfl, id⟩
  | tail _ hgoes ih =>
    obtain ⟨hs, hq⟩ := hgoes.keeps
    exact ⟨hs.trans ih.1, hq ∘ ih.2⟩

theorem GoesOn.deliveriesSound {v w : Feed} (h : GoesOn v w) (hv : v.deliveriesSound) : w.deliveriesSound := by
  intro l
  obtain ⟨hs, hq⟩ := Delivery.goes_keeps (h.delivery l)
  rw [hs, h.isOpen]
  exact ⟨hq (hv l).1, (hv l).2⟩

theorem State.offer_deliveriesSound {s : State} (hs : s.deliveriesSound) : s.offer.deliveriesSound := by
  intro l
  obtain ⟨hquiet, hopen⟩ := hs l
  rw [State.offer_chain]
  exact ⟨hquiet.of_idle (Delivery.offerUpTo_state _ _ _) (Delivery.offerUpTo_idle _ _ _), fun hn => hopen (by simpa using hn)⟩

/-- What every change keeps, changes one after the other keep. -/
theorem FeedChanges.keeps {v w : Feed} (h : FeedChanges v w) {P : Feed → Prop} (hP : ∀ a b, FeedChange a b → P a → P b)
    (hv : P v) : P w := by
  induction h with
  | refl => exact hv
  | tail _ hchange ih => exact hP _ _ hchange ih

theorem FeedEvent.deliveriesSound {s t : State} (h : FeedEvent s t) (hs : s.deliveriesSound) : t.deliveriesSound := by
  rw [← State.feed_deliveriesSound] at hs ⊢
  cases h with
  | goesOn h => exact h.deliveriesSound hs
  | ends u h k => exact k.deliveriesSound (State.offer_deliveriesSound (h.keeps (fun _ _ => FeedChange.deliveriesSound) hs))
  | stops h =>
    intro l
    obtain ⟨hoff, hquiet⟩ := h l
    exact ⟨hquiet, fun hn => absurd hoff hn⟩

/-! ### Live deliveries (09 R152, R155) -/

/-- Every LIVE delivery has its window within the journal. -/
def Feed.windows (v : Feed) : Prop :=
  ∀ l, (v.delivery l).state = .live → ∃ c k j, (v.delivery l).Window v.oldest v.journal.length c k j

/-- Every LIVE delivery has its window within the journal, full or with next at the number after the journal. -/
def Feed.full (v : Feed) : Prop :=
  ∀ l, (v.delivery l).state = .live →
    ∃ c k j, (v.delivery l).Window v.oldest v.journal.length c k j ∧ (k = 4 ∨ j + k = v.journal.length)

theorem Feed.full.windows {v : Feed} (h : v.full) : v.windows := fun l hl => by
  obtain ⟨c, k, j, hwindow, -⟩ := h l hl
  exact ⟨c, k, j, hwindow⟩

/-- The statements' window of a LIVE delivery is one within a sound journal, full or with next at the number after the journal
(09 R152). -/
theorem Delivery.windowSound_iff {s : State} (h : s.journalSound) (d : Delivery) :
    d.windowSound s ↔ (d.state = .live → ∃ c k j, d.Window s.oldestSeq s.journal.length c k j ∧
      (k = 4 ∨ j + k = s.journal.length)) := by
  have hcap : Config.journalCapacity = 1024 := rfl
  have hlen : s.journal.length ≤ Config.journalCapacity := h.2.1
  obtain ⟨-, hnextSeq, -⟩ := Feed.places (v := s.feed) h
  refine imp_congr_right fun _ => ⟨?_, ?_⟩
  · rintro ⟨c, n, hc, hn, hc0, hn0, hpos, hmost, hflight, hfull, hoffers, htimer, hlength, hretry⟩
    obtain ⟨k, hk⟩ : ∃ k, forward c n = k + 1 := ⟨forward c n - 1, by omega⟩
    obtain rfl : seqAfter (k + 1) c = n := by rw [← hk, seqAfter_forward hc0 hn0]
    rw [hk] at hpos hmost hflight hfull hoffers htimer
    obtain ⟨j, hplace, hwithin, hend⟩ := Feed.flight_place (v := s.feed) h (by omega) hflight (hfull.imp_left (by omega))
    exact ⟨c, k, j, ⟨hc, hn, hc0, by omega, hplace, hwithin, hoffers, htimer.trans (by omega), hlength, hretry⟩, hend⟩
  · rintro ⟨c, k, j, hw, hend⟩
    have hmost := hw.most
    have hwithin := hw.within
    have hdist : forward c (seqAfter (k + 1) c) = k + 1 := forward_seqAfter hw.nonzero (by omega)
    refine ⟨c, seqAfter (k + 1) c, hw.confirmed, hw.next, hw.nonzero, seqAfter_ne_zero _ hw.nonzero, ?_⟩
    rw [hdist]
    refine ⟨by omega, by omega, fun m hm => ?_, hend.imp (by omega) fun hj => ?_, hw.offers, hw.timer.trans (by omega),
      hw.length, hw.retry⟩
    · obtain ⟨i, hi, rfl⟩ := mem_seqsFrom.mp hm
      rw [hw.place, ← seqAfter_add]
      exact (Feed.held_place (v := s.feed) h (by omega)).trans (decide_eq_true (by change j + i < s.journal.length; omega))
    · rw [hw.next_place, hj]
      exact hnextSeq.symm

theorem State.feed_full_iff {s : State} (h : s.journalSound) : s.feed.full ↔ s.windowsSound :=
  forall_congr' fun _ => (Delivery.windowSound_iff h _).symm

/-! ### What keeps the windows -/

theorem Feed.windows.deliver {v : Feed} (hv : v.windows) (l : Link) {d : Delivery}
    (hd : d.state = .live → ∃ c k j, d.Window v.oldest v.journal.length c k j) : (v.deliver l d).windows := by
  intro m
  rw [Feed.deliver_delivery]
  split
  · exact hd
  · exact hv m

/-- The oldest number after one more record (08 R143, R145). -/
theorem Feed.record_oldest {v : Feed} (h : v.logSound) (r : Record) :
    (v.record r).oldest = if v.journal.length < Config.journalCapacity then v.oldest else seqNext v.oldest := by
  have hcap : Config.journalCapacity = 1024 := rfl
  obtain ⟨hne, hlen, -, -⟩ := id h
  obtain ⟨-, -, hseq⟩ := Feed.places h
  obtain ⟨x, rest, hj⟩ := List.exists_cons_of_ne_nil hne
  split
  · next hroom =>
    have hjournal : (v.record r).journal = x :: (rest ++ [r]) := by rw [Feed.record, if_pos hroom, hj]; rfl
    rw [Feed.oldest, hjournal, Feed.oldest, hj]
    rfl
  · next hfull =>
    have hlength : v.journal.length = rest.length + 1 := by rw [hj]; rfl
    obtain ⟨y, rest, rfl⟩ := List.exists_cons_of_length_pos (l := rest) (by omega)
    have hjournal : (v.record r).journal = y :: (rest ++ [r]) := by rw [Feed.record, if_neg hfull, hj]; rfl
    have hy := hseq 1 (by simp [hj])
    simp only [hj, List.getElem_cons_succ, List.getElem_cons_zero] at hy
    rw [Feed.oldest, hjournal]
    exact hy

theorem FeedChange.windows {v w : Feed} (h : FeedChange v w) (hv : v.logSound ∧ v.windows) : w.logSound ∧ w.windows := by
  obtain ⟨hlog, hwin⟩ := hv
  have hcap : Config.journalCapacity = 1024 := rfl
  cases h with
  | record r hr =>
    obtain ⟨-, hlen, -, -⟩ := id hlog
    obtain ⟨h0, -, -⟩ := Feed.places hlog
    refine ⟨?_, fun l => ?_⟩
    · have happ := LogSound.append (r := r) (j := v.journal) (by rw [hr]; exact hlog)
      rwa [hr] at happ
    · have holdest := Feed.record_oldest hlog r
      rw [holdest]
      by_cases hroom : v.journal.length < Config.journalCapacity
      · simp only [Feed.record, hroom, if_true, List.length_append, List.length_singleton]
        intro hl
        obtain ⟨c, k, j, hw⟩ := hwin l hl
        exact ⟨c, k, j, hw.grow⟩
      · have hsame : v.journal.tail.length + 1 = v.journal.length := by rw [List.length_tail]; omega
        simp only [Feed.record, hroom, if_false, List.length_append, List.length_singleton, hsame, Delivery.drop_state]
        intro hl
        obtain ⟨c, k, j, hw⟩ := hwin l hl
        exact hw.drop hl h0 hlen
  | closes l => exact ⟨hlog, hwin.deliver l nofun⟩
  | fallsSilent l _ => exact ⟨hlog, hwin.deliver l nofun⟩
  | confirms l n =>
    refine ⟨hlog, hwin.deliver l fun hlive => ?_⟩
    rw [Delivery.confirm_state] at hlive
    obtain ⟨c, k, j, hw⟩ := hwin l hlive
    exact hw.confirm n
  | starts l c n _ hstart =>
    obtain ⟨hc0, rfl, j, hj, hplace⟩ := hstart hlog
    exact ⟨hlog, hwin.deliver l fun _ => ⟨c, 0, j, .start hc0 hplace hj⟩⟩
  | opens l => exact ⟨hlog, hwin⟩
  | leaves l _ => exact ⟨hlog, hwin⟩

theorem Delivery.Goes.window {d e : Delivery} (h : d.Goes e) {oldest c : Seq} {count k j : Nat}
    (hw : d.Window oldest count c k j) : e.Window oldest count c k j := by
  cases h with
  | sends ho => exact hw.send ho
  | retransmits _ hr ht => exact hw.retransmit hr ht
  | ticks => exact hw.tick

theorem GoesOn.full {v w : Feed} (h : GoesOn v w) (hv : v.full) : w.full := by
  intro l hlive
  have hgoes := h.delivery l
  rw [(Delivery.goes_keeps hgoes).1] at hlive
  obtain ⟨c, k, j, hw, hend⟩ := hv l hlive
  rw [Feed.oldest, h.journal, h.nextSeq]
  refine ⟨c, k, j, ?_, hend⟩
  clear hlive
  generalize w.delivery l = e at hgoes
  induction hgoes with
  | refl => exact hw
  | tail _ hone ih => exact hone.window ih

/-- The offers at the end of an event fill the windows (09 R155). -/
theorem State.offer_full {s : State} (h : s.journalSound) (hw : s.feed.windows) : s.offer.feed.full := by
  intro l hlive
  have hd : s.offer.feed.delivery l = (s.chain l).delivery.offerUpTo s.isHeld Config.deliveryWindow := by
    change (s.offer.chain l).delivery = _
    rw [State.offer_chain]
  rw [hd] at hlive ⊢
  rw [Delivery.offerUpTo_state] at hlive
  obtain ⟨c, k, j, hwindow⟩ := hw l hlive
  obtain ⟨k', hwindow', hend⟩ := hwindow.offered hlive (Feed.held_places (v := s.feed) h)
  exact ⟨c, k', j, hwindow', hend⟩

theorem FeedEvent.windowsSound {s t : State} (h : FeedEvent s t) (hs : s.journalSound) (ht : t.journalSound)
    (hw : s.windowsSound) : t.windowsSound := by
  rw [← State.feed_full_iff hs] at hw
  rw [← State.feed_full_iff ht]
  cases h with
  | goesOn h => exact h.full hw
  | ends u h k =>
    obtain ⟨hlog, hwin⟩ := h.keeps (P := fun v => v.logSound ∧ v.windows) (fun _ _ => FeedChange.windows)
      ⟨s.feed_logSound.mpr hs, hw.windows⟩
    exact k.full (State.offer_full hlog hwin)
  | stops h =>
    intro l hlive
    obtain ⟨hoff, -⟩ := h l
    exact nomatch hoff.symm.trans hlive

end Sys2Proof.Machine
end

section
/-! SUPPORT. What every operation and every command make of the journal, the deliveries and the sessions, and the two statements
about what deliveries hold. -/

namespace Sys2Proof.Machine

/-! ### The operations that leave all of it alone -/

theorem State.feed_of_chains {s t : State} (hj : t.journal = s.journal) (hn : t.nextSeq = s.nextSeq)
    (hc : ∀ l, t.chain l = s.chain l) (ho : t.session = s.session) : t.feed = s.feed :=
  State.feed_congr hj hn (fun l => by rw [hc]) (by rw [ho])

@[simp] theorem State.modifyPoint_feed (s : State) (p : Point) (f : PointState → PointState) :
    (s.modifyPoint p f).feed = s.feed := State.feed_of_chains (by simp) (by simp) (by simp) (by simp)

@[simp] theorem State.modifyGroup_feed (s : State) (g : Group) (f : GroupState → GroupState) :
    (s.modifyGroup g f).feed = s.feed := State.feed_of_chains (by simp) (by simp) (by simp) (by simp)

@[simp] theorem State.modifyEntry_feed (s : State) (p : Point) (f : Entry → Entry) : (s.modifyEntry p f).feed = s.feed :=
  State.feed_of_chains (by simp) (by simp) (by simp) (by simp)

@[simp] theorem State.dropEntry_feed (s : State) (p : Point) : (s.dropEntry p).feed = s.feed :=
  State.feed_of_chains (by simp) (by simp) (by simp) (by simp)

@[simp] theorem State.openEntry_feed (s : State) (e : Entry) : (s.openEntry e).feed = s.feed :=
  State.feed_of_chains (by simp) (by simp) (by simp) (by simp)

@[simp] theorem State.setPhase_feed (s : State) (p : Point) (ph : Phase) (timer : Option Nat) :
    (s.setPhase p ph timer).feed = s.feed := s.modifyPoint_feed p _

@[simp] theorem State.tell_feed (s : State) (p : Point) (ph : Phase) (mark : Bool) : (s.tell p ph mark).feed = s.feed :=
  State.feed_of_chains (by simp) (by simp) (by simp) (by simp)

@[simp] theorem State.modifyOperator_feed (s : State) (f : OperatorUnit → OperatorUnit) :
    (s.modifyOperator f).feed = s.feed := State.feed_of_chains (by simp) (by simp) (by simp) (by simp)

@[simp] theorem State.modifyOutput_feed (s : State) (f : OutputUnit → OutputUnit) : (s.modifyOutput f).feed = s.feed :=
  State.feed_of_chains (by simp) (by simp) (by simp) (by simp)

@[simp] theorem State.advanceGeneration_feed (s : State) : s.advanceGeneration.feed = s.feed :=
  State.feed_of_chains (by simp) (by simp) (by simp) (by simp)

/-- A chain replaced with its delivery kept. -/
theorem State.setChain_feed (s : State) (l : Link) (c : Chain) (h : c.delivery = (s.chain l).delivery) :
    (s.setChain l c).feed = s.feed := by
  refine State.feed_congr (by simp) (by simp) (fun m => ?_) (by simp)
  rw [State.chain_setChain]
  split
  · next hm => rw [hm, h]
  · rfl

theorem State.setPlaces_feed (s : State) (l : Link) (places : List Place) :
    (s.setChain l { s.chain l with places := places }).feed = s.feed := s.setChain_feed l _ rfl

@[simp] theorem State.replacePlace_feed (s : State) (l : Link) (f : Place → Option Place) :
    (s.replacePlace l f).feed = s.feed := s.setChain_feed l _ rfl

@[simp] theorem State.setReceiver_feed (s : State) (l : Link) (x : Receiver) : (s.setReceiver l x).feed = s.feed :=
  s.setChain_feed l _ rfl

@[simp] theorem State.freeLine_feed (s : State) (l : Link) : (s.freeLine l).feed = s.feed := s.setChain_feed l _ rfl

/-- A session unit changed with its sessions kept. -/
theorem State.modifySession_feed (s : State) (f : SessionUnit → SessionUnit) (h : (f s.session).isOpen = s.session.isOpen) :
    (s.modifySession f).feed = s.feed := State.feed_congr rfl rfl (by simp) h

@[simp] theorem State.renewLease_feed (s : State) (l : Link) : (s.renewLease l).feed = s.feed := by
  unfold State.renewLease
  split
  · exact s.modifySession_feed _ (funext fun m => by cases m <;> rfl)
  · rfl

@[simp] theorem State.renewFor_feed (s : State) (l : Link) (k : ReqKind) : (s.renewFor l k).feed = s.feed := by
  unfold State.renewFor
  split <;> simp

@[simp] theorem State.conclude_feed (s : State) (l : Link) (q : Request) (a : Answer) : (s.conclude l q a).feed = s.feed := by
  cases a <;> exact s.replacePlace_feed l _

@[simp] theorem State.beginAction_feed (s : State) (a : Action) : (s.beginAction a).feed = s.feed := s.modifyOperator_feed _

@[simp] theorem State.advanceAction_feed (s : State) (src : Source) (a : Action) (pos : Option WalkPos) :
    (s.advanceAction src a pos).feed = s.feed := by
  cases pos
  · unfold State.advanceAction State.completeAction
    dsimp only
    split <;> simp
  · exact s.modifyOperator_feed _

/-! ### The operations that change something -/

theorem State.append_feed (s : State) (k : RecordKind) (src : Source) (p : Option Point) (g : Option Group) :
    (s.append k src p g).feed = s.feed.record (s.newRecord k src p g) := by
  have hdelivery (l : Link) : ((s.append k src p g).chain l).delivery =
      (if s.journal.length < Config.journalCapacity then (s.chain l).delivery else (s.chain l).delivery.drop s.oldestSeq) := by
    have hchain : (s.append k src p g).chain l = s.makeRoom.chain l := by cases l <;> rfl
    rw [hchain, State.makeRoom]
    split
    · rfl
    · next hfull =>
      cases hj : s.journal with
      | nil => rw [hj] at hfull; exact absurd (by decide) hfull
      | cons r rest =>
        have hold : s.oldestSeq = r.seq := by rw [State.oldestSeq, hj]; rfl
        rw [State.dropOldest, hj, hold]
        cases l <;> rfl
  simp only [State.feed, hdelivery, State.append_journal, State.append_nextSeq, State.append_session]
  rfl

theorem State.modifyDelivery_feed (s : State) (l : Link) (f : Delivery → Delivery) :
    (s.modifyDelivery l f).feed = s.feed.deliver l (f (s.chain l).delivery) := by
  have hdelivery (m : Link) : ((s.modifyDelivery l f).chain m).delivery =
      if m = l then f (s.chain l).delivery else (s.chain m).delivery := by
    rw [State.modifyDelivery, State.chain_setChain]
    split <;> rfl
  have hupdate := funext fun m => (hdelivery m).trans (Function.update_apply (fun m => (s.chain m).delivery) l _ m).symm
  simp only [State.feed, hupdate, State.modifyDelivery_journal, State.modifyDelivery_nextSeq, State.modifyDelivery_session]
  rfl

theorem State.setOpen_feed (s : State) (l : Link) (b : Bool) :
    (s.modifySession fun u => u.setOpen l b).feed = { s.feed with isOpen := Function.update s.feed.isOpen l b } := by
  have hopen : (s.session.setOpen l b).isOpen = Function.update s.session.isOpen l b := by
    funext m
    cases l <;> cases m <;> rfl
  change { s.feed with isOpen := (s.session.setOpen l b).isOpen } = _
  rw [hopen]
  rfl

@[simp] theorem FeedChanges.rfl' (v : Feed) : FeedChanges v v := .refl

section
variable {v : Feed} {s : State} (h : FeedChanges v s.feed)
include h

@[simp] theorem State.append_feedChanges (k : RecordKind) (src : Source) (p : Option Point) (g : Option Group) :
    FeedChanges v (s.append k src p g).feed := by
  rw [State.append_feed]
  exact h.tail (.record _ _ rfl)

@[simp] theorem State.appendPoint_feedChanges (k : RecordKind) (src : Source) (p : Point) :
    FeedChanges v (s.appendPoint k src p).feed := State.append_feedChanges h k src _ _

@[simp] theorem State.appendBare_feedChanges (k : RecordKind) (src : Source) : FeedChanges v (s.appendBare k src).feed :=
  State.append_feedChanges h k src _ _

@[simp] theorem State.closeEntry_feedChanges (p : Point) (src : Source) : FeedChanges v (s.closeEntry p src).feed := by
  rcases s.closeEntry_cases p src with ⟨-, e⟩ | ⟨_, -, -, e⟩ | ⟨_, -, -, e⟩ <;> rw [e] <;> simp [h]

@[simp] theorem State.move_feedChanges (p : Point) (ph : Phase) (timer : Option Nat) (kind : RecordKind) (src : Source)
    (upd : Entry → Entry) : FeedChanges v (s.move p ph timer kind src upd).feed := by
  unfold State.move
  dsimp only
  split <;> simp [h]

@[simp] theorem State.clearFirstOut_feedChanges (g : Group) (src : Source) : FeedChanges v (s.clearFirstOut g src).1.feed := by
  unfold State.clearFirstOut
  split <;> simp [h]

@[simp] theorem State.lampSources_feedChanges (src : Source) (f : OutputUnit → OutputUnit) :
    FeedChanges v (s.lampSources src f).feed := by
  unfold State.lampSources
  dsimp only
  split <;> simp [h]

@[simp] theorem State.silence_feedChanges (src : Source) : FeedChanges v (s.silence src).feed := by
  unfold State.silence
  split <;> simp [h]

/-! ### The sequence engine and the chatter unit -/

@[simp] theorem State.openEpisode_feedChanges (p : Point) (d : PointDef) : FeedChanges v (s.openEpisode p d).feed := by
  unfold State.openEpisode
  dsimp only
  split <;> simp [h]

@[simp] theorem State.reraise_feedChanges (p : Point) : FeedChanges v (s.reraise p).feed := by
  unfold State.reraise
  split <;> simp [h]

@[simp] theorem State.engineRaise_feedChanges (p : Point) (d : PointDef) : FeedChanges v (s.engineRaise p d).feed := by
  unfold State.engineRaise
  split <;> simp [h]

@[simp] theorem State.engineClear_feedChanges (p : Point) : FeedChanges v (s.engineClear p).feed := by
  unfold State.engineClear
  split <;> simp [h]

@[simp] theorem State.ackPoint_feedChanges (p : Point) (src : Source) : FeedChanges v (s.ackPoint p src).1.feed := by
  unfold State.ackPoint
  split <;> simp [h]

@[simp] theorem State.resetPoint_feedChanges (p : Point) (src : Source) : FeedChanges v (s.resetPoint p src).1.feed := by
  unfold State.resetPoint
  split <;> simp [h]

@[simp] theorem State.raise_feedChanges (p : Point) (d : PointDef) : FeedChanges v (s.raise p d).feed := by
  unfold State.raise State.chatterRaise State.suppress
  repeat' split
  all_goals simp [h]

@[simp] theorem State.clear_feedChanges (p : Point) (d : PointDef) : FeedChanges v (s.clear p d).feed := by
  unfold State.clear State.chatterClear
  repeat' split
  all_goals simp [h]

@[simp] theorem State.restorePoint_feedChanges (p : Point) (cause : RestoreCause) (src : Source) :
    FeedChanges v (s.restorePoint p cause src).feed := by
  simp [State.restorePoint, h]

/-! ### Qualification -/

@[simp] theorem State.becomeAbnormal_feedChanges (p : Point) (d : PointDef) : FeedChanges v (s.becomeAbnormal p d).feed := by
  simp [State.becomeAbnormal, h]

@[simp] theorem State.becomeNormal_feedChanges (p : Point) (d : PointDef) : FeedChanges v (s.becomeNormal p d).feed := by
  simp [State.becomeNormal, h]

@[simp] theorem State.beginAbnormal_feedChanges (p : Point) (d : PointDef) : FeedChanges v (s.beginAbnormal p d).feed := by
  unfold State.beginAbnormal
  split <;> simp [h]

theorem State.takeNormal_feedChanges (p : Point) (d : PointDef) : FeedChanges v (s.takeNormal p d).feed := by
  unfold State.takeNormal
  repeat' split
  all_goals simp [h]

theorem State.takeAbnormal_feedChanges (p : Point) (d : PointDef) : FeedChanges v (s.takeAbnormal p d).feed := by
  unfold State.takeAbnormal
  split <;> simp [h]

@[simp] theorem State.qualify_feedChanges (p : Point) (d : PointDef) (level : Level) :
    FeedChanges v (s.qualify p d level).feed := by
  cases level
  · exact State.takeNormal_feedChanges h p d
  · exact State.takeAbnormal_feedChanges h p d

/-! ### Walks and the panel -/

@[simp] theorem State.ackWalk_feedChanges (src : Source) (a : Action) (p : Point) : FeedChanges v (s.ackWalk src a p).feed := by
  unfold State.ackWalk
  split <;> simp [h]

@[simp] theorem State.examineGroup_feedChanges (src : Source) (a : Action) (g : Group) :
    FeedChanges v (s.examineGroup src a g).feed := by
  unfold State.examineGroup
  split <;> simp [h]

@[simp] theorem State.resetMember_feedChanges (src : Source) (a : Action) (g : Group) (p : Point) :
    FeedChanges v (s.resetMember src a g p).feed := by
  unfold State.resetMember
  split <;> simp [h]

@[simp] theorem State.clearingStage_feedChanges (src : Source) (a : Action) (g : Group) :
    FeedChanges v (s.clearingStage src a g).feed := by
  unfold State.clearingStage
  split <;> simp [h]

@[simp] theorem State.beginPress_feedChanges (x : Press) : FeedChanges v (s.beginPress x).feed := by
  cases x <;> simp [State.beginPress, h]

@[simp] theorem State.takePanelTransition_feedChanges (line : PanelLine) (active : Bool) :
    FeedChanges v (s.takePanelTransition line active).feed := by
  unfold State.takePanelTransition State.takePress
  repeat' split
  all_goals simp [h]

/-! ### Sessions (10 R178, R179) -/

theorem State.free_feedChanges : FeedChanges v (s.modifySession SessionUnit.free).feed := by
  rwa [State.modifySession_feed _ _ (funext fun m => by cases m <;> rfl)]

theorem State.dropAuthority_feedChanges (l : Link) : FeedChanges v (s.dropAuthority l).feed := by
  unfold State.dropAuthority
  split
  · exact State.appendBare_feedChanges (State.free_feedChanges h) _ _
  · exact h

theorem State.closeSession_feedChanges (l : Link) (act : SessionAction) : FeedChanges v (s.closeSession l act).feed := by
  have hclosed : FeedChanges v (s.modifyDelivery l Delivery.close).feed := by
    rw [State.modifyDelivery_feed]
    exact h.tail (.closes _ l)
  have hoff : (((s.modifyDelivery l Delivery.close).dropAuthority l).chain l).delivery.state = .off := by
    unfold State.dropAuthority
    split
    · exact (State.append_undisturbed _ _ _ _ _ l).2.1.trans (by simp [State.modifyDelivery, Delivery.close])
    · simp [State.modifyDelivery, Delivery.close]
  refine State.appendBare_feedChanges ?_ _ _
  rw [State.setOpen_feed]
  exact (State.dropAuthority_feedChanges hclosed l).tail (.leaves _ l hoff)

theorem State.openSession_feedChanges (l : Link) : FeedChanges v (s.openSession l).feed := by
  unfold State.openSession
  refine State.appendBare_feedChanges ?_ _ _
  rw [State.setOpen_feed]
  refine Relation.ReflTransGen.tail ?_ (.opens _ l)
  split
  · exact State.closeSession_feedChanges h l _
  · exact h

end

/-! ### Kinds of event -/

theorem FeedEvent.same {s t : State} (h : t.feed = s.feed) : FeedEvent s t := .goesOn (.of_eq h)

/-- What goes before an event and leaves all of it alone. -/
theorem FeedEvent.of_feed {s u t : State} (hu : u.feed = s.feed) (h : FeedEvent u t) : FeedEvent s t := by
  cases h with
  | goesOn h => exact .goesOn (hu ▸ h)
  | ends w h k => exact .ends w (hu ▸ h) k
  | stops h => exact .stops h

/-- A transmitter sends the report at the head of its link's offer list, or none (09 R156). -/
theorem State.startTx_goesOn (s : State) (l : Link) : GoesOn s.feed (s.startTx l).feed := by
  refine ⟨by simp [State.feed], by simp [State.feed], by simp [State.feed], fun m => ?_⟩
  change Relation.ReflTransGen Delivery.Goes (s.chain m).delivery ((s.startTx l).chain m).delivery
  by_cases hm : m = l
  · subst hm
    unfold State.startTx
    dsimp only
    split
    · exact .refl
    · split
      · rw [State.chain_setChain_self]
      · split
        · exact .refl
        · next ho =>
          split <;> rw [State.chain_setChain_self] <;> exact .single (.sends ho)
  · rw [State.startTx_other s hm]

theorem State.finish_goesOn (s : State) : GoesOn s.offer.feed s.finish.feed :=
  (s.offer.startTx_goesOn .a).trans (State.startTx_goesOn _ .b)

theorem FeedEvent.startTx {s u : State} (h : u.feed = s.feed) (l : Link) : FeedEvent s (u.startTx l) :=
  .goesOn (h ▸ u.startTx_goesOn l)

theorem FeedEvent.finish {s u : State} (h : FeedChanges s.feed u.feed) : FeedEvent s u.finish := .ends u h u.finish_goesOn

theorem FeedEvent.whenRunning {s : State} {f : State → State} (h : FeedEvent s (f s)) : FeedEvent s (s.whenRunning f) := by
  unfold State.whenRunning
  split
  · exact .same rfl
  · exact h

/-! ### Requests (10 R174) -/

/-- What the owner of a request may do: nothing to the journal, the deliveries and the sessions, or changes with an answer after
which the event tests for offers (09 R155). -/
def OwnerFeeds (k : ReqKind) (s : State) (done : State × Answer) : Prop :=
  done.1.feed = s.feed ∨ done.2.offers k = true ∧ FeedChanges s.feed done.1.feed

theorem OwnerFeeds.nothing {k : ReqKind} (s : State) (a : Answer) : OwnerFeeds k s (s, a) := .inl rfl

theorem OwnerFeeds.ok {k : ReqKind} {s u : State} {fields : List Byte} (hk : k.reads = false) (h : FeedChanges s.feed u.feed) :
    OwnerFeeds k s (u, .reply .ok fields) := .inr ⟨by simp [Answer.offers, hk], h⟩

theorem State.refusal_session {s : State} {l : Link} {k : ReqKind} {body : List Byte} (h : s.refusal l k body = none)
    (hk : k ≠ .hello) : s.session.isOpen l = true := by
  unfold State.refusal at h
  split at h
  · cases h
  · next hn => exact Bool.not_eq_false _ ▸ fun hclosed => hn ⟨hk, hclosed⟩

theorem FeedEvent.settle {s u : State} {l : Link} {k : ReqKind} {a : Answer} (q : Request) (h : OwnerFeeds k s (u, a)) :
    FeedEvent s ((u.conclude l q a).settle l k a) := by
  unfold State.settle
  rcases h with h | ⟨hoffers, hchanges⟩
  · split
    · exact .finish (by rw [State.conclude_feed]; exact h ▸ .refl)
    · split
      · exact .startTx (by rw [State.conclude_feed]; exact h) l
      · exact .same (by rw [State.conclude_feed]; exact h)
  · rw [if_pos hoffers]
    exact .finish (by rw [State.conclude_feed]; exact hchanges)

/-- A request does what its owner does, and its owner acts under an open session, but for HELLO (10 R174). -/
theorem FeedEvent.serve {s : State} {l : Link} {k : ReqKind} {sel : Request → Bool}
    {act : Request → State → State × Answer}
    (h : ∀ q u, (k ≠ .hello → u.session.isOpen l = true) → OwnerFeeds k u (act q u)) :
    FeedEvent s (s.serve l k sel act) := by
  unfold State.serve
  refine .whenRunning ?_
  dsimp only
  split
  · next q _ =>
    refine .of_feed (s.renewFor_feed l k) (.settle q ?_)
    unfold State.handle
    split
    · exact .nothing _ _
    · next hpass => exact h q _ fun hk => State.refusal_session hpass hk
  · exact .same rfl

/-- A request whose owner keeps the state. -/
theorem FeedEvent.serve_reading {s : State} {l : Link} {k : ReqKind} {sel : Request → Bool}
    {act : Request → State → State × Answer} (h : ∀ q u, (act q u).1 = u) : FeedEvent s (s.serve l k sel act) :=
  .serve fun q u _ => .inl (by rw [h])

/-! ### The owners of the requests -/

theorem State.defineGroupRequest_ownerFeeds (s : State) (l : Link) (arg : Option (Group × GroupDef)) :
    OwnerFeeds .defineGroup s (s.defineGroupRequest l arg) := by
  unfold State.defineGroupRequest
  repeat' split
  case isTrue => exact .ok rfl (by simp [State.putGroup])
  all_goals exact .nothing _ _

theorem State.undefineGroupRequest_ownerFeeds (s : State) (l : Link) (arg : Option Group) :
    OwnerFeeds .undefineGroup s (s.undefineGroupRequest l arg) := by
  unfold State.undefineGroupRequest
  repeat' split
  case isFalse.isTrue => exact .ok rfl (by simp [State.removeGroup])
  all_goals exact .nothing _ _

theorem State.definePointRequest_ownerFeeds (s : State) (l : Link) (arg : Option (Point × PointDef)) :
    OwnerFeeds .definePoint s (s.definePointRequest l arg) := by
  unfold State.definePointRequest
  repeat' split
  case isFalse.isTrue => exact .ok rfl (by simp [State.putPoint])
  all_goals exact .nothing _ _

theorem State.undefinePointRequest_ownerFeeds (s : State) (l : Link) (arg : Option Point) :
    OwnerFeeds .undefinePoint s (s.undefinePointRequest l arg) := by
  unfold State.undefinePointRequest
  repeat' split
  case isFalse.isTrue => exact .ok rfl (by simp [State.removePoint])
  all_goals exact .nothing _ _

theorem State.serviceOutRequest_ownerFeeds (s : State) (l : Link) (arg : Option Point) :
    OwnerFeeds .setService s (s.serviceOutRequest l arg) := by
  unfold State.serviceOutRequest
  repeat' split
  case isFalse.isFalse => exact .ok rfl (by simp [State.takeOut])
  all_goals exact .nothing _ _

theorem State.putIn_feedChanges (s : State) (l : Link) (p : Point) (d : PointDef) : FeedChanges s.feed (s.putIn l p d).feed := by
  unfold State.putIn
  dsimp only
  split <;> simp

theorem State.serviceInRequest_ownerFeeds (s : State) (l : Link) (arg : Option Point) :
    OwnerFeeds .setService s (s.serviceInRequest l arg) := by
  unfold State.serviceInRequest
  repeat' split
  case isFalse.isTrue => exact .ok rfl (s.putIn_feedChanges l _ _)
  all_goals exact .nothing _ _

theorem State.restoreByRequest_feedChanges (s : State) (l : Link) (p : Point) (d : PointDef) :
    FeedChanges s.feed (s.restoreByRequest l p d).feed := by
  unfold State.restoreByRequest
  dsimp only
  split <;> simp

theorem State.restoreRequest_ownerFeeds (s : State) (l : Link) (arg : Option Point) :
    OwnerFeeds .restore s (s.restoreRequest l arg) := by
  unfold State.restoreRequest
  repeat' split
  case isTrue => exact .ok rfl (s.restoreByRequest_feedChanges l _ _)
  all_goals exact .nothing _ _

theorem State.setTimeRequest_ownerFeeds (s : State) (l : Link) (arg : Option Stamp) :
    OwnerFeeds .setTime s (s.setTimeRequest l arg) := by
  cases arg with
  | none => exact .nothing _ _
  | some t => exact .ok rfl (State.appendBare_feedChanges (s := { s with time := t }) .refl _ _)

/-- SET TIME appends one record or none, whatever its body reads as. -/
theorem FeedEvent.serve_setTime {s : State} (l : Link) (parse : Request → Option Stamp) :
    FeedEvent s (s.serve l .setTime anyRequest fun q u => u.setTimeRequest l (parse q)) :=
  .serve fun q u _ => u.setTimeRequest_ownerFeeds l (parse q)

theorem State.operatorRequest_ownerFeeds (s : State) (k : ReqKind) (kind : ActionKind) (l : Link) (tag : Byte)
    (zeros : List Byte) (scope : Option Scope) : OwnerFeeds k s (s.operatorRequest kind l tag zeros scope) := by
  unfold State.operatorRequest
  repeat' split
  · exact .nothing _ _
  · exact .nothing _ _
  · exact .inl (s.beginAction_feed _)

/-- SILENCE appends exactly when it is answered OK (05 R100). -/
theorem State.silence_ownerFeeds (s : State) (src : Source) : OwnerFeeds .silence s (s.silence src, s.silenceAnswer) := by
  by_cases hlatch : (s.output.horn || s.output.tone) = true
  · rw [State.silenceAnswer, if_pos hlatch]
    exact .ok rfl (by simp)
  · rw [State.silence, if_neg hlatch]
    exact .nothing _ _

/-- LAMP TEST answered NOTHING stops no timer, and so changes no lamp-test source (06 R114). -/
theorem State.lampTestRequest_ownerFeeds (s : State) (l : Link) (seconds : Nat) :
    OwnerFeeds .lampTest s (s.lampTestRequest l seconds) := by
  unfold State.lampTestRequest
  split
  · exact .nothing _ _
  · by_cases hidle : seconds = 0 ∧ s.output.hostTimer = none
    · obtain ⟨rfl, hnone⟩ := hidle
      have hsame : (s.modifyOutput fun u => { u with hostTimer := none }) = s := by
        rw [State.modifyOutput, ← hnone]
      refine .inl ?_
      simp only [if_true, State.lampSources, hsame]
    · simp only [hidle, if_false]
      exact .ok rfl (by simp)

theorem State.claimRequest_ownerFeeds (s : State) (l : Link) : OwnerFeeds .claim s (s.claimRequest l) := by
  unfold State.claimRequest
  repeat' split
  · refine .ok rfl (State.appendBare_feedChanges ?_ _ _)
    rw [State.modifySession_feed _ _ (funext fun m => by cases m <;> rfl)]
    exact .refl
  · exact .inl (s.renewLease_feed l)
  · exact .nothing _ _

theorem State.releaseRequest_ownerFeeds (s : State) (l : Link) : OwnerFeeds .release s (s.releaseRequest l) := by
  unfold State.releaseRequest
  split
  · exact .ok rfl (State.appendBare_feedChanges (State.free_feedChanges .refl) _ _)
  · exact .nothing _ _

theorem State.restartRequest_ownerFeeds (s : State) (l : Link) : OwnerFeeds .restart s (s.restartRequest l) := by
  unfold State.restartRequest
  split
  · exact .nothing _ _
  · exact .inl ((State.setPlaces_feed _ l _).trans (State.modifySession_feed _ _ (funext fun m => by cases m <;> rfl)))

theorem State.unsubscribeRequest_ownerFeeds (s : State) (l : Link) : OwnerFeeds .unsubscribe s (s.unsubscribeRequest l) := by
  unfold State.unsubscribeRequest
  dsimp only
  split
  · exact .nothing _ _
  · refine .ok rfl ?_
    rw [State.modifyDelivery_feed]
    exact .single (.closes _ l)

/-! ### SUBSCRIBE (09 R157, R158) -/

/-- The newest record has the number before next (08 R142). -/
theorem State.newest_place {s : State} (h : s.journalSound) :
    s.newestSeq ≠ 0 ∧ seqNext s.newestSeq = s.nextSeq := by
  obtain ⟨hne, -, -, -⟩ := id h
  obtain ⟨h0, hnext, hseq⟩ := Feed.places (v := s.feed) h
  have hpos : 0 < s.journal.length := List.length_pos_iff.mpr hne
  have hnewest : s.newestSeq = seqAfter (s.journal.length - 1) s.feed.oldest := by
    rw [State.newestSeq, List.getLast?_eq_getElem?, List.getElem?_eq_getElem (by omega)]
    exact hseq _ (by change s.journal.length - 1 < s.journal.length; omega)
  rw [hnewest, ← seqAfter_succ, Nat.sub_add_cancel hpos]
  exact ⟨seqAfter_ne_zero _ h0, hnext.symm⟩

/-- A subscription starts where the number after confirmed is held or next (09 Table 9-2). -/
theorem State.subscription_place {s : State} {start : Option Seq} {c n : Seq} {truncated : Bool}
    (hstart : s.subscription start = some (c, n, truncated)) (h : s.journalSound) :
    c ≠ 0 ∧ n = seqNext c ∧ ∃ j ≤ s.journal.length, seqNext c = seqAfter j s.oldestSeq := by
  obtain ⟨h0, hnext, -⟩ := Feed.places (v := s.feed) h
  obtain ⟨hnewest0, hnewest⟩ := State.newest_place h
  have hend : ∃ j ≤ s.journal.length, s.nextSeq = seqAfter j s.oldestSeq := ⟨_, le_refl _, hnext⟩
  unfold State.subscription at hstart
  split at hstart
  · cases hstart
    exact ⟨hnewest0, hnewest.symm, hnewest ▸ hend⟩
  · next m =>
    split at hstart
    · cases hstart
    · next hm =>
      split at hstart
      · next hheld =>
        cases hstart
        rw [State.position_held_iff] at hheld
        refine ⟨seqPrev_ne_zero hm, (seqNext_seqPrev hm).symm, ?_⟩
        rw [seqNext_seqPrev hm]
        exact Feed.place_of_held (v := s.feed) h hm (.inl hheld)
      · next hpos =>
        cases hstart
        have hm' : n = s.nextSeq := by
          unfold State.position at hpos
          split at hpos
          · cases hpos
          · split at hpos
            · assumption
            · split at hpos <;> cases hpos
        exact ⟨hnewest0, hm'.trans hnewest.symm, hnewest ▸ hend⟩
      · cases hstart
        refine ⟨seqPrev_ne_zero h0, (seqNext_seqPrev h0).symm, 0, Nat.zero_le _, ?_⟩
        exact seqNext_seqPrev h0
      · cases hstart

theorem State.subscribeRequest_ownerFeeds (s : State) (l : Link) (start : Option Seq) (ho : s.session.isOpen l = true) :
    OwnerFeeds .subscribe s (s.subscribeRequest l start) := by
  unfold State.subscribeRequest
  split
  · exact .nothing _ _
  · next hstart =>
    refine .ok rfl ?_
    rw [State.modifyDelivery_feed]
    exact .single (.starts _ l _ _ ho (State.subscription_place hstart))

/-! ### Links and restarts -/

theorem FeedEvent.confirmFrame {s u : State} (hu : u.feed = s.feed) (l : Link) (body : List Byte) :
    FeedEvent s (u.confirmFrame l body) := by
  unfold State.confirmFrame
  dsimp only
  split
  · split
    · refine .finish ?_
      rw [State.modifyDelivery_feed, State.renewLease_feed, hu]
      have hd : (u.renewLease l).chain l = u.chain l := u.renewLease_chain l l
      have hdelivery : (u.chain l).delivery = s.feed.delivery l := congrArg (fun v : Feed => v.delivery l) hu
      rw [hd, hdelivery]
      exact .single (.confirms _ l _)
    · exact .same (by rw [State.renewLease_feed, hu])
  · exact .same hu

theorem FeedEvent.takeFrame {s u : State} (hu : u.feed = s.feed) (l : Link) (q : Request) : FeedEvent s (u.takeFrame l q) := by
  unfold State.takeFrame
  repeat' split
  · exact .same hu
  · exact .confirmFrame hu l _
  · exact .same ((State.setPlaces_feed u l _).trans hu)
  · exact .same hu

theorem FeedEvent.retransmissionExpiry {s : State} {l : Link} (h : (s.chain l).delivery.expired = true) :
    FeedEvent s (s.retransmissionExpiry l) := by
  obtain ⟨hlive, htimer⟩ : (s.chain l).delivery.state = .live ∧ (s.chain l).delivery.timer = some 0 := by
    simpa [Delivery.expired] using h
  unfold State.retransmissionExpiry
  split
  · next hretry =>
    refine .goesOn (.trans ?_ (State.startTx_goesOn _ l))
    rw [State.modifyDelivery_feed]
    refine ⟨rfl, rfl, rfl, fun m => ?_⟩
    rw [Feed.deliver_delivery]
    split
    · next hm =>
      rw [hm]
      exact .single (.retransmits hlive hretry (Option.isSome_iff_exists.mpr ⟨0, htimer⟩))
    · exact .refl
  · refine .finish (State.appendBare_feedChanges ?_ _ _)
    rw [State.modifyDelivery_feed]
    exact .single (.fallsSilent _ l hlive)

theorem FeedEvent.transmitEnd {s t : State} {l : Link} (h : execTransmitEnd l s = .next t) : FeedEvent s t := by
  cases h
  refine .whenRunning ?_
  dsimp only
  split
  · exact .same rfl
  · split
    · refine .stops fun m => ?_
      obtain ⟨hs, hq⟩ := Delivery.goes_keeps ((State.startTx_goesOn (s.freeLine l).warmRestart l).delivery m)
      change _ = ((s.freeLine l).warmRestart.chain m).delivery.state at hs
      change ((s.freeLine l).warmRestart.chain m).delivery.restsQuietly → _ at hq
      rw [State.warmRestart_chain] at hs hq
      exact ⟨hs, hq (Delivery.close_restsQuietly _)⟩
    · exact .startTx (s.freeLine_feed l) l

theorem State.tick_goesOn (s : State) : GoesOn s.feed s.tick.feed := by
  rw [State.tick_eq]
  refine ⟨rfl, rfl, rfl, fun l => ?_⟩
  cases l <;> exact .single (.ticks _)

theorem State.idle_feedEvent (s : State) : FeedEvent s s.idle := by
  unfold State.idle
  repeat' split
  · exact .same rfl
  · exact .goesOn s.tick_goesOn
  · exact .same rfl
  · exact .same rfl

/-! ### Every command -/

theorem exec_feedEvent {c : Instr} {s t : State} (h : exec c s = .next t) : FeedEvent s t := by
  cases c with
  | coldReset cause rate1 rate0 =>
    rw [exec_coldReset] at h
    cases h
    exact .stops fun l => by cases l <;> exact ⟨rfl, fun _ => ⟨rfl, rfl, rfl, rfl⟩⟩
  | resetAsserted cause =>
    cases h
    exact .same (State.feed_congr rfl rfl (fun l => by cases l <;> rfl) rfl)
  | inputLineChange p active | panelLineChange line active =>
    cases h
    refine .same ?_
    dsimp only
    repeat' split
    all_goals simp
  | onDelayExpiry p | offDelayExpiry p | accumulationExpiry p | realertExpiry p | restoreTimerExpiry p | lampTestHostExpiry
  | panelFilteredTransition line =>
    cases h
    refine .whenRunning ?_
    split
    · exact .finish (by simp)
    · exact .same rfl
  | restartRaise p =>
    cases h
    refine .whenRunning ?_
    split
    · split
      · exact .finish (by simp)
      · exact .same rfl
    · exact .same rfl
  | panelPressBegin =>
    cases h
    refine .whenRunning ?_
    split
    case h_1 => exact .finish (by simp)
    all_goals exact .same rfl
  | leaseExpiry =>
    cases h
    refine .whenRunning ?_
    split
    · exact .finish (State.appendBare_feedChanges (State.free_feedChanges .refl) _ _)
    · exact .same rfl
  | forgetTimerExpiry p | chatterWindowExpiry p | patternCycleWrap | interByteTimeout l =>
    cases h
    refine .whenRunning (.same ?_)
    split <;> simp
  | dayRollover =>
    cases h
    refine .whenRunning (.same ?_)
    split <;> rfl
  | filteredTransition p =>
    cases h
    refine .whenRunning ?_
    dsimp only
    repeat' split
    · exact .same rfl
    · exact .same (by simp)
    · exact .finish (by simp)
  | ackWalkEvent src | resetGroupExamine src | resetMemberEvent src | firstOutClearing src =>
    cases h
    refine .whenRunning ?_
    split
    · exact .same rfl
    · split
      case h_1 => exact .finish (by simp)
      all_goals exact .same rfl
  | retransmissionExpiry l =>
    cases h
    refine .whenRunning ?_
    split
    · exact .retransmissionExpiry ‹_›
    · exact .same rfl
  | byteArrival l data stopGood =>
    cases h
    refine .whenRunning ?_
    dsimp only
    repeat' split
    · exact .takeFrame (s.setReceiver_feed l _) l _
    · exact .same (s.setReceiver_feed l _)
    · exact .same (s.setReceiver_feed l _)
  | confirm l body =>
    cases h
    refine .whenRunning ?_
    split
    · exact .same rfl
    · exact .confirmFrame rfl l body
  | unknownKindRequest l =>
    cases h
    refine .whenRunning ?_
    split
    · split
      · exact .startTx (by simp) l
      · exact .same rfl
    · exact .same rfl
  | transmitEnd l => exact .transmitEnd h
  | hello l => cases h; exact .serve fun _ u _ => .ok rfl (State.openSession_feedChanges .refl l)
  | bye l => cases h; exact .serve fun _ u _ => .ok rfl (State.closeSession_feedChanges .refl l _)
  | claim l => cases h; exact .serve fun _ u _ => u.claimRequest_ownerFeeds l
  | release l => cases h; exact .serve fun _ u _ => u.releaseRequest_ownerFeeds l
  | restart l => cases h; exact .serve fun _ u _ => u.restartRequest_ownerFeeds l
  | defineGroup l => cases h; exact .serve fun _ u _ => u.defineGroupRequest_ownerFeeds l _
  | undefineGroup l => cases h; exact .serve fun _ u _ => u.undefineGroupRequest_ownerFeeds l _
  | definePoint l => cases h; exact .serve fun _ u _ => u.definePointRequest_ownerFeeds l _
  | undefinePoint l => cases h; exact .serve fun _ u _ => u.undefinePointRequest_ownerFeeds l _
  | setServiceOut l => cases h; exact .serve fun _ u _ => u.serviceOutRequest_ownerFeeds l _
  | setServiceIn l => cases h; exact .serve fun _ u _ => u.serviceInRequest_ownerFeeds l _
  | restore l => cases h; exact .serve fun _ u _ => u.restoreRequest_ownerFeeds l _
  | setTime l => cases h; exact .serve_setTime l fun q => timeArg q.body
  | ack l | reset l => cases h; exact .serve fun _ u _ => u.operatorRequest_ownerFeeds _ _ l _ _ _
  | silence l => cases h; exact .serve fun _ u _ => u.silence_ownerFeeds _
  | lampTest l => cases h; exact .serve fun _ u _ => u.lampTestRequest_ownerFeeds l _
  | subscribe l => cases h; exact .serve fun _ u ho => u.subscribeRequest_ownerFeeds l _ (ho (by decide))
  | unsubscribe l => cases h; exact .serve fun _ u _ => u.unsubscribeRequest_ownerFeeds l
  | readStatus l => cases h; exact .serve_reading fun _ _ => rfl
  | readPoint l | readGroup l | readList l =>
    cases h
    exact .serve_reading fun _ _ => by split <;> rfl
  | readJournal l =>
    cases h
    refine .serve_reading fun _ u => ?_
    generalize inRange _ _ _ = most, u.journalStart _ = start
    cases most <;> cases start <;> rfl

theorem step_feedEvent {s t : State} (h : step s = .next t) : FeedEvent s t := by
  unfold step at h
  split at h
  · next i rest _ => exact .of_feed (u := { s with pending := rest }) rfl (exec_feedEvent h)
  · cases h
    exact s.idle_feedEvent

/-! ### The statements -/

/-- Settles O9: every change an event makes, its offers and what deliveries do on their own keep idle deliveries empty. -/
theorem idleDeliveriesHoldNothing : Obligations.IdleDeliveriesHoldNothing :=
  fun _ _ hs h => (step_feedEvent h).deliveriesSound hs

/-- Settles O52: offering goes on to a full window or the journal's end; a drop is read off its two equations; and every change an
event makes keeps the windows within the journal, which the offers at its end fill. -/
theorem offersFillTheWindow : Obligations.OffersFillTheWindow := by
  refine ⟨fun s d c n hs hlive hc hn hc0 hn0 hplace hpos hmost => ?_, fun d m => ⟨fun h => ?_, fun c n hlive hc hn hm => ?_⟩,
    fun s t h hs hw => (step_feedEvent h).windowsSound hs (journalStaysConsecutive s t hs h) hw⟩
  · obtain ⟨k, hk⟩ : ∃ k, forward c n = k + 1 := ⟨forward c n - 1, by omega⟩
    obtain rfl : seqAfter (k + 1) c = n := by rw [← hk, seqAfter_forward hc0 hn0]
    obtain ⟨i, hi, hplace⟩ := Feed.place_of_held (v := s.feed) hs hn0 hplace
    obtain ⟨-, hnext, -⟩ := Feed.places (v := s.feed) hs
    obtain ⟨a, ha, hka, -, hstop, heq⟩ :=
      Delivery.offerUpTo_eq (Feed.held_places (v := s.feed) hs) hlive hc hn hc0 (by omega) hplace hi 4
    rw [State.feed_held] at heq
    rw [heq]
    refine ⟨?_, a, ha, rfl⟩
    have hcount : (d.extended c k a).inFlight = k + a := Delivery.inFlight_of_next (c := c) hc rfl hc0 hka
    rw [hcount]
    refine (show k + a = 4 ∨ i + a = s.feed.journal.length by omega).imp_right fun hend => ?_
    change some (seqAfter (k + a + 1) c) = some s.feed.nextSeq
    rw [hnext, ← hend, seqAfter_add i a, ← hplace, ← seqAfter_add]
    exact congrArg (fun x => some (seqAfter x c)) (by omega)
  · rcases h with h | h
    · exact Delivery.drop_idle m d h
    · exact Delivery.drop_elsewhere h
  · exact Delivery.drop_moves hlive hc hn hm

end Sys2Proof.Machine
end

section
/-! SUPPORT. SUBSCRIBE and UNSUBSCRIBE (09 R157 to R159). -/

namespace Sys2Proof.Machine

/-- The position of a number compares it with the journal alone (08 R144). -/
theorem State.subscription_renewed (s : State) (l : Link) (start : Option Seq) :
    (s.renewLease l).subscription start = s.subscription start := by
  rw [State.renewLease_eq]
  rfl

/-! ### One delivery replaced while the lease is renewed -/

theorem State.redelivered_own (s : State) (l : Link) (f : Delivery → Delivery) :
    ((s.renewLease l).modifyDelivery l f).chain l = { s.chain l with delivery := f (s.chain l).delivery } := by
  rw [State.modifyDelivery, State.chain_setChain_self, State.renewLease_chain]

theorem State.redelivered_other (s : State) (l : Link) (f : Delivery → Delivery) :
    ((s.renewLease l).modifyDelivery l f).chain (otherLink l) = s.chain (otherLink l) := by
  rw [State.modifyDelivery, State.chain_setChain, if_neg (otherLink_ne l), State.renewLease_chain]

theorem State.redelivered_frame (s : State) (l : Link) (f : Delivery → Delivery) :
    (s.renewLease l).modifyDelivery l f =
      { s with session := s.sessionAfter l, chainA := ((s.renewLease l).modifyDelivery l f).chainA,
               chainB := ((s.renewLease l).modifyDelivery l f).chainB } := by
  rw [State.renewLease_eq]
  cases l <;> rfl

theorem State.redelivered_isHeld (s : State) (l : Link) (f : Delivery → Delivery) :
    ((s.renewLease l).modifyDelivery l f).isHeld = s.isHeld := by
  rw [State.redelivered_frame]
  rfl

/-! ### SUBSCRIBE and UNSUBSCRIBE -/

/-- A request that replaces its link's delivery and is answered OK: the delivery then offers what it can (09 R155, R158, R159). -/
theorem Accepts.delivers {s : State} {l : Link} {k : ReqKind} {tag : Byte} {body : List Byte} (h : Accepts s l k tag body)
    {c : Instr} {act : Request → State → State × Answer} {f : Delivery → Delivery} {fields : List Byte}
    (hc : exec c s = .next (s.serve l k anyRequest act)) (hk : k.reads = false) (hh : k ≠ .hello)
    (ha : act { kind := k.code, tag := tag, body := body } (s.renewLease l) =
      ((s.renewLease l).modifyDelivery l f, .reply .ok fields)) :
    ∃ t, exec c s = .next t ∧ t = { s with session := s.sessionAfter l, chainA := t.chainA, chainB := t.chainB } ∧
      (t.chain l).delivery = (f (s.chain l).delivery).offerUpTo s.isHeld 4 ∧ Replies s t l k tag .ok fields := by
  have hrenew : s.renewFor l k = s.renewLease l := by rw [State.renewFor, if_neg hh]
  obtain ⟨t, ht, hframe, hreplies, hdelivery⟩ :=
    h.acted (sel := anyRequest) rfl hk (by rw [hrenew]; exact ha) (by rw [State.redelivered_own]; exact ⟨rfl, rfl, rfl⟩)
      (.of_eq (s.redelivered_other l f))
  refine ⟨t, by rw [hc, ht], ?_, by rw [hdelivery, State.redelivered_own, State.redelivered_isHeld]; rfl, hreplies⟩
  rw [hframe, State.redelivered_frame]

/-- An accepted SUBSCRIBE by the start its body carries (09 R158). The start stays a variable here, so that no number is ever
computed. -/
theorem Accepts.subscribes {s : State} {l : Link} {tag : Byte} {body : List Byte} (h : Accepts s l .subscribe tag body)
    {start : Option Seq} (hbody : subscribeStart body = start) {c n : Seq} {truncated : Bool}
    (hstart : s.subscription start = some (c, n, truncated)) :
    ∃ t, exec (.subscribe l) s = .next t ∧
      t = { s with session := s.sessionAfter l, chainA := t.chainA, chainB := t.chainB } ∧
      (t.chain l).delivery =
        Delivery.offerUpTo s.isHeld 4
          { state := .live, confirmed := some c, next := some n, retry := 0, timer := none, offers := [] } ∧
      Replies s t l .subscribe tag .ok
        (boolCode truncated :: (be4 n.toNat ++ be4 s.oldestSeq.toNat ++ be4 s.newestSeq.toNat)) := by
  refine h.delivers (c := .subscribe l) (f := fun _ => .startFrom c n) rfl rfl (by decide) ?_
  dsimp only
  rw [hbody, State.subscribeRequest, State.subscription_renewed, hstart]
  dsimp only
  rw [State.renewLease_oldestSeq, State.renewLease_newestSeq]

/-- A SUBSCRIBE refused (09 R157). -/
theorem Accepts.subscribeRefused {s : State} {l : Link} {tag : Byte} {body : List Byte} (h : Accepts s l .subscribe tag body)
    {start : Option Seq} (hbody : subscribeStart body = start) (hstart : s.subscription start = none) :
    TurnsAway s (.subscribe l) l .subscribe tag .badArgument [] := by
  refine h.turnsAway rfl rfl (by decide) (by decide) ?_
  dsimp only
  rw [hbody, State.subscribeRequest, State.subscription_renewed, hstart]

/-- Settles O48: the body is empty or four bytes, and their number has one of the four positions. -/
theorem subscribeStartsTheDelivery : Obligations.SubscribeStartsTheDelivery := by
  intro l tag body s h starts
  refine ⟨fun hbody => h.subscribes (start := none) (by rw [hbody]; rfl) rfl, fun n3 n2 n1 n0 hbody => ?_⟩
  intro n
  have hstart : subscribeStart body = some n := by
    rw [hbody, subscribeStart, numberAt4_cons]
    rfl
  refine ⟨fun hn => ⟨fun hp => ?_, fun hp => ?_, fun hp => ?_⟩, fun hp => h.subscribeRefused hstart ?_⟩
  · exact h.subscribes hstart (by simp only [State.subscription, hn, if_false, hp]; rfl)
  · exact h.subscribes hstart (by simp only [State.subscription, hn, if_false, hp])
  · exact h.subscribes hstart (by simp only [State.subscription, hn, if_false, hp]; rfl)
  · rcases hp with hp | hp
    · rw [State.subscription, if_pos hp]
    · simp only [State.subscription, hp, ite_self]

/-- Settles O49: a delivery in session is closed, and one that is OFF stands as it stood. -/
theorem unsubscribeTurnsTheDeliveryOff : Obligations.UnsubscribeTurnsTheDeliveryOff := by
  intro l tag s h d
  refine ⟨fun hlive => ?_, fun hoff => h.turnsAway rfl rfl (by decide) (by decide) ?_⟩
  · obtain ⟨t, ht, hframe, hdelivery, hreplies⟩ :=
      h.delivers (c := .unsubscribe l) (f := Delivery.close) (fields := seqBytes d.confirmed) rfl rfl (by decide)
        (by simp only [State.unsubscribeRequest, State.renewLease_chain, d] at hlive ⊢; rw [if_neg hlive])
    rw [Delivery.offerUpTo_idle _ _ _ (by simp [Delivery.close])] at hdelivery
    exact ⟨t, ht, hframe, hdelivery, hreplies⟩
  · simp only [State.unsubscribeRequest, State.renewLease_chain]
    rw [if_pos hoff]

end Sys2Proof.Machine
end

section
/-! SUPPORT. The transmitter at the end of an event (10 R176): what it may change, and the statements about CONFIRM and the
retransmission timer. -/

namespace Sys2Proof.Machine

/-! ### One chain replaced -/

@[simp] theorem State.setChain_setChain (s : State) (l : Link) (c d : Chain) : (s.setChain l c).setChain l d = s.setChain l d := by
  cases l <;> rfl

@[simp] theorem State.setChain_chain (s : State) (l : Link) : s.setChain l (s.chain l) = s := by
  cases l <;> rfl

theorem State.setChain_frame (s : State) (l : Link) (c : Chain) :
    s.setChain l c = { s with chainA := (s.setChain l c).chainA, chainB := (s.setChain l c).chainB } := by
  cases l <;> rfl

theorem State.whenRunning_running {s : State} (h : s.inReset = false) (f : State → State) : s.whenRunning f = f s := by
  rw [State.whenRunning, if_neg (by rw [h]; decide)]

/-! ### The transmitter -/

/-- A transmitter touches nothing but its own chain (10 R176). -/
theorem State.startTx_setChain (s : State) (l : Link) : s.startTx l = s.setChain l ((s.startTx l).chain l) := by
  unfold State.startTx
  dsimp only
  repeat' split
  all_goals simp

/-- Of a delivery, a transmitter takes from the offer list alone (09 R156). -/
theorem State.startTx_offers (s : State) (l : Link) :
    ((s.startTx l).chain l).delivery =
      { (s.chain l).delivery with offers := ((s.startTx l).chain l).delivery.offers } := by
  unfold State.startTx
  dsimp only
  repeat' split
  all_goals simp

/-- What a transmitter sends depends on the chain and the journal alone (09 R156, 12 R193). -/
theorem Transmits.congr {s u : State} {c d : Chain} (hj : u.journal = s.journal) (hn : u.nextSeq = s.nextSeq)
    (h : Transmits u c d) : Transmits s c d := by
  have hrecord : u.record? = s.record? := funext fun n => by rw [State.record?, hj, State.record?]
  have hframe : u.reportFrame = s.reportFrame := by
    funext d o r
    simp only [State.reportFrame, State.oldestSeq, State.newestSeq, hj, hn]
  unfold Transmits at h ⊢
  rwa [hrecord, hframe] at h

/-- A delivery's chain once it has made its offers (09 R155). -/
def State.offering (s : State) (l : Link) : Chain :=
  { s.chain l with delivery := (s.chain l).delivery.offerUpTo s.isHeld Config.deliveryWindow }

/-- At the end of an event each transmitter is tested once, after the offers (10 R176). -/
theorem State.finish_chain (s : State) (l : Link) :
    ∃ u : State, u.journal = s.journal ∧ u.nextSeq = s.nextSeq ∧ u.chain l = s.offering l ∧
      s.finish.chain l = (u.startTx l).chain l := by
  have hoffer : s.offer.chain l = s.offering l := s.offer_chain l
  cases l with
  | a => exact ⟨s.offer, rfl, rfl, hoffer, State.startTx_other _ (by decide)⟩
  | b => exact ⟨s.offer.startTx .a, by simp, by simp, (State.startTx_other _ (by decide)).trans hoffer, rfl⟩

theorem State.finish_transmits (s : State) (l : Link) : Transmits s (s.offering l) (s.finish.chain l) := by
  obtain ⟨u, hj, hn, hu, ht⟩ := s.finish_chain l
  rw [ht, ← hu]
  exact (u.startTx_transmits l).congr hj hn

theorem State.finish_offers (s : State) (l : Link) :
    (s.finish.chain l).delivery = { (s.offering l).delivery with offers := (s.finish.chain l).delivery.offers } := by
  obtain ⟨u, -, -, hu, ht⟩ := s.finish_chain l
  rw [ht, ← hu]
  exact u.startTx_offers l

/-! ### The timer across offers (09 R155) -/

theorem Delivery.offerOne_runs {held : Seq → Bool} {d : Delivery} (h : d.timer = some Config.retransmissionMs) :
    (d.offerOne held).timer = some Config.retransmissionMs := by
  unfold Delivery.offerOne
  repeat' split
  all_goals simp [h]

theorem Delivery.offerUpTo_runs {held : Seq → Bool} {d : Delivery} (h : d.timer = some Config.retransmissionMs) (m : Nat) :
    (d.offerUpTo held m).timer = some Config.retransmissionMs := by
  induction m generalizing d with
  | zero => exact h
  | succ m ih => exact ih (Delivery.offerOne_runs h)

/-- A delivery whose next record the journal does not hold offers nothing (09 R155). -/
theorem Delivery.offerUpTo_notHeld {held : Seq → Bool} {d : Delivery} {n : Seq} (hn : d.next = some n) (h : held n = false)
    (m : Nat) : d.offerUpTo held m = d := by
  refine Delivery.offerUpTo_of_offerOne ?_ m
  simp [Delivery.offerOne, hn, h]

/-! ### CONFIRM (09 R160) -/

theorem State.confirmFrame_discarded {s : State} {l : Link} {body : List Byte}
    (h : s.session.isOpen l = false ∨ body.length ≠ 4) : s.confirmFrame l body = s := by
  have hfails : (s.session.isOpen l && ReqKind.formatOk body .confirm) = false := by
    rcases h with h | h
    · rw [h]; rfl
    · rw [ReqKind.formatOk, beq_false_of_ne h, Bool.and_false]
  rw [State.confirmFrame, if_neg (by rw [hfails]; decide)]

/-- A CONFIRM under an open session, by whether its number is in flight (09 R160). -/
theorem State.confirmFrame_taken {s : State} {l : Link} {n3 n2 n1 n0 : Byte} (h : s.session.isOpen l = true) :
    s.confirmFrame l [n3, n2, n1, n0] =
      if (s.chain l).delivery.advances (n3 ++ n2 ++ n1 ++ n0) then
        ((s.renewLease l).modifyDelivery l (Delivery.confirm (n3 ++ n2 ++ n1 ++ n0))).finish
      else s.renewLease l := by
  have hpasses : (s.session.isOpen l && ReqKind.formatOk [n3, n2, n1, n0] .confirm) = true := by rw [h]; rfl
  rw [State.confirmFrame, if_pos hpasses, numberAt4_cons]

theorem exec_confirm {s : State} {l : Link} (body : List Byte) (hr : s.inReset = false) (hp : s.session.restartPending ≠ some l) :
    exec (.confirm l body) s = .next (s.confirmFrame l body) := by
  rw [exec, execConfirm, State.whenRunning_running hr, if_neg hp]

/-- A number that is not in flight (09 R160). -/
theorem Delivery.not_advances {d : Delivery} {n : Seq}
    (h : d.state ≠ .live ∨ d.confirmed = none ∨ n = 0 ∨ d.confirmed = some n ∨
      ∃ c nx, d.confirmed = some c ∧ d.next = some nx ∧ forward c nx ≤ forward c n) : d.advances n = false := by
  rw [Bool.eq_false_iff]
  intro hadv
  simp only [Delivery.advances, Delivery.flies, Bool.and_eq_true, decide_eq_true_eq] at hadv
  obtain ⟨hlive, hflies⟩ := hadv
  split at hflies
  · next c nx hc hnx =>
    simp only [Bool.and_eq_true, decide_eq_true_eq] at hflies
    obtain ⟨⟨hn0, hpos⟩, hlt⟩ := hflies
    rcases h with h | h | h | h | ⟨c', nx', hc', hnx', hle⟩
    · exact h hlive
    · cases hc.symm.trans h
    · exact hn0 h
    · cases hc.symm.trans h
      rw [forward_self] at hpos
      omega
    · cases hc.symm.trans hc'
      cases hnx.symm.trans hnx'
      omega
  · cases hflies

/-- Settles O50: the CONFIRM is discarded, moves confirmed within the records in flight, or renews the lease alone. -/
theorem confirmAdvancesOrIsIgnored : Obligations.ConfirmAdvancesOrIsIgnored := by
  intro l body s hr hp
  refine ⟨_, exec_confirm body hr hp, State.confirmFrame_discarded, fun n3 n2 n1 n0 hopen hbody => ?_⟩
  subst hbody
  intro n d
  rw [State.confirmFrame_taken hopen]
  refine ⟨fun c nx hlive hc hnx hn0 hpos hlt => ?_, fun h => ?_⟩
  · have hadv : d.advances n = true := by
      simp only [Delivery.advances, Delivery.flies, hc, hnx, hlive, decide_eq_true hn0, decide_eq_true hpos, decide_eq_true hlt,
        decide_true, Bool.and_self]
    have hmoved := Delivery.confirm_advances hlive hc hnx hn0 hpos hlt
    rw [if_pos hadv]
    generalize hu : (s.renewLease l).modifyDelivery l (Delivery.confirm n) = u
    have hown : u.chain l = { s.chain l with delivery := d.confirm n } := hu ▸ s.redelivered_own l _
    have hother : u.chain (otherLink l) = s.chain (otherLink l) := hu ▸ s.redelivered_other l _
    have hframe : u = { s with session := s.sessionAfter l, chainA := u.chainA, chainB := u.chainB } :=
      hu ▸ s.redelivered_frame l _
    have hheld : u.isHeld = s.isHeld := hu ▸ s.redelivered_isHeld l _
    have hundisturbed := u.finish_undisturbed l
    have hoffers := u.finish_offers l
    have htransmits := (u.finish_transmits l).congr (s := s) (by rw [hframe]) (by rw [hframe])
    rw [State.offering, hown, hheld, hmoved] at hoffers htransmits
    rw [hown] at hundisturbed
    refine ⟨?_, ?_, ?_, ?_, hundisturbed.1, fun hrest => ?_, fun hnone hnot => ?_, ?_, hoffers, htransmits⟩
    · rw [State.finish_frame, hframe]
    · rw [hoffers]; simp
    · rw [hoffers]; simp
    · rw [hoffers]; simp
    · rw [hoffers]
      exact Delivery.offerUpTo_runs (if_neg (by omega)) _
    · rw [hoffers, Delivery.offerUpTo_notHeld rfl hnot]
      exact if_pos hnone
    · exact hother ▸ u.finish_undisturbed (otherLink l)
  · rw [if_neg (by rw [Delivery.not_advances h]; decide), State.renewLease_eq]

/-! ### RETRANSMISSION_EXPIRY (09 R161, R162) -/

theorem replaceFirst_toLine_of_none {places : List Place} (h : firstReady places = none) :
    replaceFirst Place.toLine places = places := by
  induction places with
  | nil => rfl
  | cons x rest ih =>
    cases x with
    | ready r => cases h
    | waiting k t b | inProgress k t | onLine r => exact congrArg (List.cons _) (ih h)

/-- A transmitter with no report to send leaves the delivery alone, and the chain but for a reply it begins (10 R176). -/
theorem Transmits.noReport {s : State} {c d : Chain} (h : Transmits s c d) (ho : c.delivery.offers = []) :
    d.delivery = c.delivery ∧ Shows c d c.places ∧ (c.line.isSome = true ∨ firstReady c.places = none → d = c) := by
  obtain ⟨hbusy, hreply, -, hidle⟩ := h
  cases hl : c.line with
  | some f =>
    obtain rfl := hbusy (by rw [hl]; rfl)
    exact ⟨rfl, by simp [Shows, hl], fun _ => rfl⟩
  | none =>
    cases hr : firstReady c.places with
    | none =>
      obtain rfl := hidle hl hr ho
      exact ⟨rfl, by simp [Shows, hl, hr, replaceFirst_toLine_of_none hr], fun _ => rfl⟩
    | some r =>
      obtain rfl := hreply r hl hr
      exact ⟨rfl, by simp [Shows, hl, hr], fun hn => by simp at hn⟩

theorem State.dropped_idle (s : State) (n : Nat) {d : Delivery} (h : d.state ≠ .live) : s.dropped n d = d := by
  unfold State.dropped
  induction s.journal.take (s.journal.length + n - Config.journalCapacity) with
  | nil => rfl
  | cons r rest ih => rw [List.foldl_cons, Delivery.drop_idle _ _ h, ih]

theorem exec_retransmissionExpiry {s : State} {l : Link} (hr : s.inReset = false) (hlive : (s.chain l).delivery.state = .live)
    (ht : (s.chain l).delivery.timer = some 0) : exec (.retransmissionExpiry l) s = .next (s.retransmissionExpiry l) := by
  have hexpired : (s.chain l).delivery.expired = true := by simp only [Delivery.expired, hlive, ht, decide_true, Bool.and_self]
  rw [exec, execRetransmissionExpiry, State.whenRunning_running hr, if_pos hexpired]

/-- The window offered again, and the transmitter tested (09 R161). -/
theorem State.retransmissionExpiry_again {s : State} {l : Link} (h : (s.chain l).delivery.retry < 4) :
    s.retransmissionExpiry l = (s.setChain l { s.chain l with delivery := (s.chain l).delivery.retransmit }).startTx l :=
  if_pos h

/-- The delivery SILENT, DELIVERY_SILENT appended (09 R162). -/
theorem State.retransmissionExpiry_silent {s : State} {l : Link} (h : (s.chain l).delivery.retry = 4) :
    s.retransmissionExpiry l =
      ((s.setChain l { s.chain l with delivery := (s.chain l).delivery.fallSilent }).appendBare (.deliverySilent l) .part).finish :=
  if_neg (by rw [h]; decide)

/-- Settles O51: below the last retry the transmitter is tested with the window offered again, at it with nothing to report. -/
theorem retransmissionRepeatsOrFallsSilent : Obligations.RetransmissionRepeatsOrFallsSilent := by
  intro l s hr hj d hlive htimer
  refine ⟨_, exec_retransmissionExpiry hr hlive htimer, fun hretry => ?_, fun hretry => ?_⟩
  · intro again
    rw [State.retransmissionExpiry_again hretry]
    generalize hu : s.setChain l { s.chain l with delivery := d.retransmit } = u
    have hown : u.chain l = { s.chain l with delivery := again } := hu ▸ s.chain_setChain_self l _
    have hjournal : u.journal = s.journal := by rw [← hu, State.setChain_journal]
    have hnext : u.nextSeq = s.nextSeq := by rw [← hu, State.setChain_nextSeq]
    have hrx := (u.startTx_undisturbed l l).1
    have hoffers := u.startTx_offers l
    have htransmits := (u.startTx_transmits l).congr hjournal hnext
    rw [hown] at hrx hoffers htransmits
    refine ⟨?_, hrx, hoffers, htransmits⟩
    rw [u.startTx_setChain l, ← hu, State.setChain_setChain, State.chain_setChain_self]
  · rw [State.retransmissionExpiry_silent hretry]
    generalize hu : s.setChain l { s.chain l with delivery := d.fallSilent } = u
    have hown : u.chain l = { s.chain l with delivery := d.fallSilent } := hu ▸ s.chain_setChain_self l _
    have hother : u.chain (otherLink l) = s.chain (otherLink l) := by
      rw [← hu, State.chain_setChain, if_neg (otherLink_ne l)]
    have hframe : u = { s with chainA := u.chainA, chainB := u.chainB } := hu ▸ s.setChain_frame l _
    have hjournal : u.journal = s.journal := by rw [← hu, State.setChain_journal]
    have happended := (u.append_appends (.deliverySilent l) .part none none (hjournal ▸ hj)).chain l
    rw [hown, State.dropped_idle _ _ (by simp [Delivery.fallSilent])] at happended
    have htransmits := (u.appendBare (.deliverySilent l) .part).finish_transmits l
    rw [State.offering, State.appendBare, happended, Delivery.offerUpTo_idle _ _ _ (by simp [Delivery.fallSilent])] at htransmits
    obtain ⟨hdelivery, hshows, hstands⟩ := htransmits.noReport rfl
    refine ⟨?_, hdelivery, hshows, fun h => ?_, ?_, ?_⟩
    · rw [hframe]
      exact State.eq_of_fields (by simp [State.appendBare])
    · have hsame := hstands h
      exact ⟨(congrArg Chain.places hsame :), (congrArg Chain.line hsame :)⟩
    · exact hother ▸ (u.append_undisturbed _ _ _ _ (otherLink l)).trans (State.finish_undisturbed _ (otherLink l))
    · exact .single s hj hjournal (by rw [hframe]) (by rw [hframe]) (by simp [State.appendBare]) (by simp [State.appendBare])
        (by simp [State.appendBare])

end Sys2Proof.Machine
end

section
/-! SUPPORT. The end of a received frame and the end of a sent one (10 R170, R171, R173, R176). -/

namespace Sys2Proof.Machine

/-! ### The second CHECK byte (10 Table 10-2) -/

theorem requestKind_eq_some {b : Byte} {k : ReqKind} : requestKind b = some k ↔ b = k.code := by
  refine ⟨fun h => ?_, fun h => h ▸ requestKind_code k⟩
  have hcode := List.find?_some h
  exact (of_decide_eq_true hcode).symm

/-- The byte that ends a frame (10 R170, R171): the receiver hunts, and a right CHECK completes the frame. -/
theorem Receiver.take_last {x : Receiver} {len kind tag check1 check0 : Byte} {body : List Byte} (hs : x.state = .check)
    (hf : x.frame = len :: kind :: tag :: (body ++ [check1])) (hl : len.toNat = body.length) :
    x.take check0 =
      (.cold, if check1 ++ check0 = x.crc then some { kind := kind, tag := tag, body := body } else none) := by
  have hlen : byteAt x.frame 0 = body.length := by rw [hf, ← hl]; rfl
  have hlast : ¬ x.frame.length = 3 + body.length := by
    rw [hf]
    simp only [List.length_cons, List.length_append, List.length_nil]
    omega
  have hnumber : numberAt2 (x.frame ++ [check0]) (3 + body.length) = (check1 ++ check0).toNat := by
    rw [append_byte_toNat, numberAt2, byteAt, byteAt, hf, Nat.add_comm 3]
    simp
  have hcheck : numberAt2 (x.frame ++ [check0]) (3 + body.length) = x.crc.toNat ↔ check1 ++ check0 = x.crc := by
    rw [hnumber]
    exact BitVec.toNat_inj
  have hbody : (x.frame.drop 3).take body.length = body := by rw [hf]; simp
  simp only [Receiver.take, hs, hlen, hlast, if_false, hcheck, hbody]
  rw [hf]
  rfl

/-- A byte that completes a frame hands it to the link unit in the same event (10 R173). -/
theorem exec_byteArrival_completes {s : State} {l : Link} {b : Byte} (hr : s.inReset = false) {x : Receiver} {q : Request}
    (h : (s.chain l).rx.take b = (x, some q)) :
    exec (.byteArrival l b true) s = .next ((s.setReceiver l x).takeFrame l q) := by
  simp only [exec, execByteArrival, State.whenRunning_running hr, if_true, h]

/-- A byte that completes no frame changes the receiver alone (10 R170). -/
theorem exec_byteArrival_receives {s : State} {l : Link} {b : Byte} (hr : s.inReset = false) {x : Receiver}
    (h : (s.chain l).rx.take b = (x, none)) : exec (.byteArrival l b true) s = .next (s.setReceiver l x) := by
  simp only [exec, execByteArrival, State.whenRunning_running hr, if_true, h]

/-- A complete frame of another kind than CONFIRM takes a place, unless none is free or a restart is pending (10 R173). -/
theorem State.takeFrame_request {s : State} {l : Link} {q : Request} (h : q.kind ≠ 0x36) :
    s.takeFrame l q =
      if s.session.restartPending ≠ some l ∧ (s.chain l).places.length < 4 then
        s.setChain l { s.chain l with places := (s.chain l).places ++ [.waiting q.kind q.tag q.body] }
      else s := by
  have hkind : ¬ requestKind q.kind = some .confirm := fun e => h (requestKind_eq_some.mp e)
  rw [State.takeFrame, if_neg hkind]
  by_cases hp : s.session.restartPending = some l
  · rw [if_pos hp, if_neg fun hn => hn.1 hp]
  · rw [if_neg hp]
    exact if_congr (by simp [hp, Config.replyPlaces]) rfl rfl

/-- A complete frame of kind CONFIRM is taken as the command CONFIRM is (10 R173; log 23). -/
theorem State.takeFrame_confirm {s : State} {l : Link} {q : Request} (hr : s.inReset = false) (h : q.kind = 0x36) :
    exec (.confirm l q.body) s = .next (s.takeFrame l q) := by
  rw [exec, execConfirm, State.whenRunning_running hr, State.takeFrame, if_pos (requestKind_eq_some.mpr h)]

/-- Settles O54: the CHECK is right or wrong, and the kind of a complete frame is CONFIRM or another. -/
theorem completeFrameTakesAPlace : Obligations.CompleteFrameTakesAPlace := by
  intro l s len kind tag check1 check0 body hr c hs hf hl hunting
  have htake := Receiver.take_last (check0 := check0) hs hf hl
  have hframe (hcheck : check1 ++ check0 = c.rx.crc) : exec (.byteArrival l check0 true) s =
      .next ((s.setChain l hunting).takeFrame l { kind := kind, tag := tag, body := body }) := by
    rw [if_pos hcheck] at htake
    exact exec_byteArrival_completes hr htake
  have hsession : (s.setChain l hunting).session = s.session := s.setChain_session l hunting
  refine ⟨fun hwrong => ?_, fun hcheck hkind => ?_, fun hcheck hkind => ?_⟩
  · rw [if_neg hwrong] at htake
    exact exec_byteArrival_receives hr htake
  · rw [hframe hcheck, State.takeFrame_request hkind, State.chain_setChain_self, hsession, State.setChain_setChain,
      ← apply_ite (s.setChain l)]
  · have hrunning : (s.setChain l hunting).inReset = false := by cases l <;> exact hr
    have hconfirm := State.takeFrame_confirm (l := l) (q := { kind := kind, tag := tag, body := body }) hrunning hkind
    rw [hframe hcheck, hconfirm]
    refine ⟨rfl, fun h => ?_⟩
    rw [← hconfirm]
    by_cases hp : s.session.restartPending = some l
    · rw [exec, execConfirm, State.whenRunning_running hrunning, if_pos (by rw [hsession]; exact hp)]
    · rw [exec_confirm body hrunning (by rw [hsession]; exact hp),
        State.confirmFrame_discarded (by rw [hsession]; exact h.resolve_left hp)]

/-! ### TRANSMIT_END (10 R176) -/

/-- The end of a frame that is not the reply of an accepted RESTART frees the line, and tests the transmitter. -/
theorem exec_transmitEnd_frees {s : State} {l : Link} {f : TxFrame} (hr : s.inReset = false) (hl : (s.chain l).line = some f)
    (hn : ((replyOnLine (s.chain l).places).map Reply.restarts).getD false = false) :
    exec (.transmitEnd l) s = .next ((s.freeLine l).startTx l) := by
  rw [exec, execTransmitEnd, State.whenRunning_running hr, hl]
  dsimp only
  rw [hn]
  rfl

/-- Settles O55: the test of the transmitter with the line and the place free, by what stands waiting. -/
theorem transmitEndChoosesTheNextFrame : Obligations.TransmitEndChoosesTheNextFrame := by
  intro l s f hr c hl hn places
  have hown : (s.freeLine l).chain l = { c with places := places, line := none } := s.chain_setChain_self l _
  have htransmits := ((s.freeLine l).startTx_transmits l).congr (s := s) (by simp) (by simp)
  rw [hown] at htransmits
  obtain ⟨-, hreply, hreport, hidle⟩ := htransmits
  have hsets {d : Chain} (hd : ((s.freeLine l).startTx l).chain l = d) : exec (.transmitEnd l) s = .next (s.setChain l d) := by
    rw [exec_transmitEnd_frees hr hl hn, (s.freeLine l).startTx_setChain l, hd]
    exact congrArg _ (s.setChain_setChain l _ d)
  exact ⟨fun r hready => hsets (hreply r rfl hready),
    fun o rest r hnone hoffers hrecord => hsets (hreport o rest r rfl hnone hoffers hrecord),
    fun hnone hoffers => hsets (hidle rfl hnone hoffers)⟩

end Sys2Proof.Machine
end

section
/-! SUPPORT. One step of the part, and the receiver of a link byte by byte (10 R170 to R172). -/

namespace Sys2Proof.Machine

/-! ### The front of the queue -/

/-- Settles O1: a queue with a command at its front is the first branch of a step. -/
theorem stepRunsFrontCommand : Obligations.StepRunsFrontCommand := by
  intro c rest s h
  rw [step, h]

/-! ### The receiver's table (10 Table 10-2) -/

/-- In HUNT only SYNC begins a frame. -/
theorem Receiver.take_hunt {x : Receiver} (h : x.state = .hunt) (b : Byte) :
    x.take b =
      (if b = 0xA5 then { state := .length, crc := 0xFFFF, due := 0, frame := [], timer := some 0 } else x, none) := by
  rw [Receiver.take, h]

/-- LEN is kept up to the largest, and ends the frame above it. -/
theorem Receiver.take_length {x : Receiver} (h : x.state = .length) (b : Byte) :
    x.take b =
      (if b.toNat ≤ 240 then { state := .header, crc := crcByte x.crc b, due := b.toNat, frame := [b], timer := some 0 }
        else .cold, none) := by
  rw [Receiver.take, h]
  rfl

/-- KIND and TAG are kept; after TAG comes the body, if there is one, and else CHECK. -/
theorem Receiver.take_header {x : Receiver} (h : x.state = .header) (b : Byte) :
    x.take b =
      ({ state := if x.frame.length < 2 then .header else if x.due = 0 then .check else .body,
         crc := crcByte x.crc b, due := x.due, frame := x.frame ++ [b], timer := some 0 }, none) := by
  rw [Receiver.take, h]

/-- A byte of the body is kept; CHECK follows the last. -/
theorem Receiver.take_body {x : Receiver} (h : x.state = .body) (b : Byte) :
    x.take b =
      ({ state := if x.due ≤ 1 then .check else .body,
         crc := crcByte x.crc b, due := x.due - 1, frame := x.frame ++ [b], timer := some 0 }, none) := by
  rw [Receiver.take, h]

/-- The first CHECK byte is kept. -/
theorem Receiver.take_firstCheck {x : Receiver} (h : x.state = .check) (hf : x.frame.length = 3 + (x.frame.getD 0 0).toNat)
    (b : Byte) : x.take b = ({ x with frame := x.frame ++ [b], timer := some 0 }, none) := by
  simp only [Receiver.take, h]
  exact if_pos hf

/-- A stop-bit error is ignored in HUNT, and ends a frame in progress (10 R171). -/
theorem Receiver.stopError_eq (x : Receiver) : x.stopError = if x.state = .hunt then x else .cold := by
  unfold Receiver.stopError
  cases x.state <;> rfl

/-- A character with a stop-bit error changes the receiver alone (10 R171). -/
theorem exec_byteArrival_stopError {s : State} (hr : s.inReset = false) (l : Link) (b : Byte) :
    exec (.byteArrival l b false) s = .next (s.setReceiver l (s.chain l).rx.stopError) := by
  simp only [exec, execByteArrival, State.whenRunning_running hr, Bool.false_eq_true, if_false]

/-- The inter-byte timeout is due at 50 ms (10 R172). -/
theorem exec_interByteTimeout_due {s : State} (hr : s.inReset = false) {l : Link} {e : Nat}
    (ht : (s.chain l).rx.timer = some e) (he : 50 ≤ e) : exec (.interByteTimeout l) s = .next (s.setReceiver l .cold) := by
  have hdue : (s.chain l).rx.timedOut = true := by
    rw [Receiver.timedOut, ht]
    exact decide_eq_true he
  rw [exec, execInterByteTimeout, State.whenRunning_running hr, if_pos hdue]

/-- Settles O53: in each state of the receiver, what the byte makes of it; then the stop-bit error and the timeout. -/
theorem receiverFollowsItsTable : Obligations.ReceiverFollowsItsTable := by
  intro l s b hr c x becomes byteTaken
  have htaken {y : Receiver} (h : x.take b = (y, none)) : byteTaken y := exec_byteArrival_receives hr h
  have hstop := exec_byteArrival_stopError hr l b
  rw [Receiver.stopError_eq] at hstop
  refine ⟨fun hs => ⟨fun hb => ?_, fun hb => ?_, ?_⟩, fun hs => ⟨fun hb => ?_, fun hb => ?_⟩, fun len hs hf => ?_,
    fun len kind hs hf => ?_, fun hs => htaken (Receiver.take_body hs b), fun hs hf => htaken (Receiver.take_firstCheck hs hf b),
    fun hs => ?_, fun e ht he => exec_interByteTimeout_due hr ht he⟩
  · exact htaken (by rw [Receiver.take_hunt hs, if_pos hb])
  · exact htaken (by rw [Receiver.take_hunt hs, if_neg hb])
  · rw [if_pos hs] at hstop
    exact hstop
  · exact htaken (by rw [Receiver.take_length hs, if_pos hb])
  · exact htaken (by rw [Receiver.take_length hs, if_neg (Nat.not_le.mpr hb)])
  · exact htaken (by rw [Receiver.take_header hs, hf]; rfl)
  · exact htaken (by rw [Receiver.take_header hs, hf]; rfl)
  · rw [if_neg hs] at hstop
    exact hstop

end Sys2Proof.Machine
end

section
/-! SUPPORT. The layouts of chapter 12 byte by byte: numbers, frames, records, entries. -/

namespace Sys2Proof.Machine

/-! ### Numbers (12 R189) -/

/-- The byte of a number from bit `i` on, read from the number held in `w` bits. -/
theorem extract_ofNat {w i : Nat} (n : Nat) (h : i + 8 ≤ w) :
    (BitVec.ofNat w n).extractLsb' i 8 = BitVec.ofNat 8 (n / 2 ^ i) := by
  apply BitVec.eq_of_getLsbD_eq
  intro j hj
  have hin : i + j < w := by omega
  rw [BitVec.getLsbD_extractLsb', BitVec.getLsbD_ofNat, BitVec.getLsbD_ofNat, Nat.testBit_div_two_pow, Nat.add_comm j]
  simp [hj, hin]

theorem be4_eq (n : Nat) :
    be4 n = [(BitVec.ofNat 32 n).extractLsb' 24 8, (BitVec.ofNat 32 n).extractLsb' 16 8,
      (BitVec.ofNat 32 n).extractLsb' 8 8, (BitVec.ofNat 32 n).extractLsb' 0 8] := by
  simp [extract_ofNat, be4, byte]

theorem be4_toNat (n : BitVec 32) :
    be4 n.toNat = [n.extractLsb' 24 8, n.extractLsb' 16 8, n.extractLsb' 8 8, n.extractLsb' 0 8] := by
  rw [be4_eq, BitVec.ofNat_toNat, BitVec.setWidth_eq]

theorem be2_eq (n : Nat) : be2 n = [(BitVec.ofNat 16 n).extractLsb' 8 8, (BitVec.ofNat 16 n).extractLsb' 0 8] := by
  simp [extract_ofNat, be2, byte]

theorem be2_toNat (n : BitVec 16) : be2 n.toNat = [n.extractLsb' 8 8, n.extractLsb' 0 8] := by
  rw [be2_eq, BitVec.ofNat_toNat, BitVec.setWidth_eq]

@[simp] theorem be2_length (n : Nat) : (be2 n).length = 2 := rfl

@[simp] theorem be4_length (n : Nat) : (be4 n).length = 4 := rfl

@[simp] theorem Stamp.bytes_length (t : Stamp) : t.bytes.length = 7 := rfl

@[simp] theorem stampBytes_length (t : Option Stamp) : (stampBytes t).length = 7 := by
  cases t <;> rfl

/-! ### Frames, records and entries -/

/-- CHECK of the standard string "123456789" (10 R169). -/
theorem crcOf_standardString : crcOf [0x31, 0x32, 0x33, 0x34, 0x35, 0x36, 0x37, 0x38, 0x39] = 0x29B1 := by decide +kernel

theorem frameBytes_length (kind tag : Byte) (body : List Byte) : (frameBytes kind tag body).length = body.length + 6 := by
  simp [frameBytes, crcBytes]

/-- The detail of every record fits into its six bytes (12 R192). -/
theorem RecordKind.detail_length_le (k : RecordKind) : k.detail.length ≤ 6 := by
  cases k with
  | defined ph g | undefined ph g => cases ph <;> simp [RecordKind.detail, definedDetail]
  | session act l => cases act <;> simp [RecordKind.detail, SessionAction.codes]
  | _ => simp [RecordKind.detail]

theorem Record.bytes_length (r : Record) : r.bytes.length = 22 := by
  have h := r.kind.detail_length_le
  simp only [Record.bytes, List.length_append, List.length_cons, List.length_nil, List.length_replicate, be4_length,
    Stamp.bytes_length]
  omega

theorem Entry.bytes_length (e : Entry) : e.bytes.length = 24 := by
  simp [Entry.bytes]

theorem State.reportFrame_length (s : State) (d : Delivery) (o : Offer) (r : Record) : (s.reportFrame d o r).length = 45 := by
  simp [State.reportFrame, frameBytes_length, seqBytes, Record.bytes_length]

/-- Settles O60: the bytes of a number settle every layout, case by case of the codes. -/
theorem layoutsHaveTheirLengths : Obligations.LayoutsHaveTheirLengths := by
  unfold Obligations.LayoutsHaveTheirLengths
  intro flag four stamp link source phase defined kind
  have hsource (x : Source) : sourceCode x = source x := by cases x <;> rfl
  have hphase (ph : Phase) : ph.code = phase ph := by cases ph <;> rfl
  have hstamp (t : Stamp) : t.bytes = stamp t := by
    rw [Stamp.bytes, be4_eq, be2_toNat]
    rfl
  have hdefined (ph : Option Phase) (g : BitVec 32) : definedDetail ph g = defined ph g := by
    rw [definedDetail, be4_toNat]
    cases ph with
    | none => rfl
    | some ph => exact congrArg (· :: four g) (hphase ph)
  have hkind (k : RecordKind) : (k.code, k.detail) = kind k := by
    cases k with
    | start c | firstOutCleared c => cases c <;> rfl
    | raised ph _ _ | cleared ph | acked ph | realert ph | resetPoint ph | suppressed ph | serviceOut ph | serviceIn ph =>
      cases ph <;> rfl
    | restored ph c => cases c <;> cases ph <;> rfl
    | silenced horn tone => cases horn <;> cases tone <;> rfl
    | defined ph g | undefined ph g => exact congrArg (Prod.mk _) (hdefined ph g)
    | timeSet t => rw [RecordKind.detail, be4_eq, be2_toNat]; rfl
    | lampTestOn | lampTestOff => rfl
    | authority act l | session act l => cases act <;> cases l <;> rfl
    | deliverySilent l => cases l <;> rfl
  have hcode (k : RecordKind) : k.code = (kind k).1 := congrArg Prod.fst (hkind k)
  have hdetail (k : RecordKind) : k.detail = (kind k).2 := congrArg Prod.snd (hkind k)
  refine ⟨crcOf_standardString, be4_toNat, be2_toNat, fun k tag body => ?_, fun r => rfl, fun r => ⟨r.bytes_length, ?_⟩,
    fun e => ⟨e.bytes_length, ?_⟩, fun s d o r => ⟨s.reportFrame_length d o r, ?_⟩, hphase, hsource, rfl, rfl, rfl, rfl, rfl, rfl⟩
  · rw [frameBytes, crcBytes, be2_toNat]
    rfl
  · rw [Record.bytes, be4_toNat, hstamp, hsource, hcode, hdetail, ← List.append_assoc]
    cases r.point <;> cases r.group <;> rfl
  · rw [Entry.bytes, be4_toNat, hphase, hstamp]
    simp only [← hstamp, ← hsource]
    cases e.ackedBy <;> cases e.ackedAt <;> rfl
  · rw [State.reportFrame, seqBytes, seqBytes]
    simp only [be4_toNat]
    rfl

end Sys2Proof.Machine
end

section
/-! SUPPORT. Requests that a link unit turns away by its checks 1 to 4 (10 Table 10-3). -/

namespace Sys2Proof.Machine

/-! ### A request refused by the link unit -/

/-- The renewal of the lease changes nothing that the checks look at (10 R174, 11 R182). -/
theorem State.renewFor_refusal (s : State) (l m : Link) (k j : ReqKind) (body : List Byte) :
    (s.renewFor l j).refusal m k body = s.refusal m k body := by
  by_cases hj : j = .hello
  · rw [State.renewFor, if_pos hj]
  · rw [State.renewFor_eq s l hj]
    cases m <;> rfl

/-- The session unit after a request of kind `k` is taken: HELLO does not renew the lease (11 R182; log 20). -/
theorem State.renewFor_frame (s : State) (l : Link) (k : ReqKind) :
    s.renewFor l k = { s with session := if k = .hello then s.session else s.sessionAfter l } := by
  by_cases hk : k = .hello
  · rw [State.renewFor, if_pos hk, if_pos hk]
  · rw [State.renewFor_eq s l hk, if_neg hk]

/-- The command that takes a request of a kind serves it, with an owner that the checks stand before. -/
theorem exec_kindCommand (l : Link) (tag : Byte) (body : List Byte) {k : ReqKind} (hk : k ≠ .confirm) (s : State) :
    ∃ sel act, sel { kind := k.code, tag := tag, body := body } = true ∧
      exec (kindCommand l { kind := k.code, tag := tag, body := body } k) s = .next (s.serve l k sel act) := by
  cases k with
  | confirm => exact absurd rfl hk
  | setService =>
    simp only [kindCommand]
    by_cases hin : asksIn { kind := ReqKind.setService.code, tag := tag, body := body } = true
    · rw [if_pos hin]
      exact ⟨asksIn, _, hin, rfl⟩
    · rw [if_neg hin]
      exact ⟨_, _, by rw [asksOut, Bool.eq_false_of_not_eq_true hin]; rfl, rfl⟩
  | _ => exact ⟨anyRequest, _, rfl, rfl⟩

/-- A refusal by the checks is never OK (10 Table 10-3). -/
theorem State.refusal_ne_ok {s : State} {l : Link} {k : ReqKind} {body : List Byte} {r : Result} {fields : List Byte}
    (h : s.refusal l k body = some (r, fields)) : r ≠ .ok := by
  rintro rfl
  unfold State.refusal at h
  repeat' split at h
  all_goals cases h

/-- A request that the checks refuse is turned away (10 R174). -/
theorem State.serve_turnsAway {s : State} {c : Instr} {l : Link} {k : ReqKind} {tag : Byte} {body : List Byte}
    {sel : Request → Bool} {act : Request → State → State × Answer} {r : Result} {fields : List Byte}
    (hr : s.inReset = false) (hn : (s.chain l).nextRequest = some { kind := k.code, tag := tag, body := body })
    (hs : sel { kind := k.code, tag := tag, body := body } = true) (hc : exec c s = .next (s.serve l k sel act))
    (h : s.refusal l k body = some (r, fields)) : TurnsAway s c l k tag r fields := by
  have hoffered : s.offered l k sel = some { kind := k.code, tag := tag, body := body } := by
    simp [State.offered, hn, requestKind_code, hs]
  have hhandle : (s.renewFor l k).handle l k { kind := k.code, tag := tag, body := body } act =
      (s.renewFor l k, .reply r fields) := by
    rw [State.handle, State.renewFor_refusal, h]
  have hoffers : (Answer.reply r fields).offers k = false := by simp [Answer.offers, State.refusal_ne_ok h]
  have hserve : s.serve l k sel act =
      ((s.renewFor l k).conclude l { kind := k.code, tag := tag, body := body } (.reply r fields)).startTx l := by
    simp only [State.serve, State.whenRunning_running hr, hoffered, hhandle, State.settle, hoffers, Bool.false_eq_true, if_false]
  refine ⟨_, hc.trans (congrArg _ hserve), ?_, .of_startTx hn (s.renewFor_chain l l k) (s.renewFor_chain l _ k)⟩
  rw [State.startTx_frame, State.conclude_frame, State.renewFor_frame]

/-! ### Which check refuses (10 Table 10-3) -/

theorem State.refusal_noSession {s : State} {l : Link} {k : ReqKind} (body : List Byte) (hk : k ≠ .hello)
    (ho : s.session.isOpen l = false) : s.refusal l k body = some (.noSession, []) :=
  if_pos ⟨hk, ho⟩

theorem State.refusal_badFormat {s : State} {l : Link} {k : ReqKind} {body : List Byte}
    (ho : k = .hello ∨ s.session.isOpen l = true) (hf : k.formatOk body = false) :
    s.refusal l k body = some (.badFormat, []) := by
  have hopen : ¬ (k ≠ .hello ∧ s.session.isOpen l = false) := fun ⟨hk, hclosed⟩ =>
    ho.elim hk fun hopen => by simp [hopen] at hclosed
  rw [State.refusal, if_neg hopen, if_pos hf]

/-- Past checks 1 and 3, a request that needs authority is refused unless its link holds it. -/
theorem State.refusal_authority {s : State} {l : Link} {k : ReqKind} {body : List Byte} (ho : s.session.isOpen l = true)
    (hf : k.formatOk body = true) (ha : k.needsAuthority = true) :
    s.refusal l k body =
      s.session.holder.elim (some (.notAuthority, [linkCode none])) fun h =>
        if h = l then none else some (.heldByOther, [linkCode (some h)]) := by
  rw [State.refusal, if_neg (by simp [ho]), if_neg (by simp [hf]), if_neg (by simp [ha])]
  cases s.session.holder <;> rfl

/-! ### UNKNOWN_KIND_REQUEST (check 2) -/

/-- A reply to a request of any KIND, by an event that has left the chains as they were: it is queued and its own transmitter
tested (10 R174, R176). -/
theorem State.concluded_startTx {s u : State} {l : Link} {q : Request} (r : Result) (fields : List Byte)
    (hn : (s.chain l).nextRequest = some q) (hu : ∀ m, u.chain m = s.chain m) :
    let t := (u.conclude l q (.reply r fields)).startTx l
    t.chain (otherLink l) = s.chain (otherLink l) ∧ (t.chain l).delivery = (s.chain l).delivery ∧
      Shows (s.chain l) (t.chain l) ((s.chain l).answered { kind := q.kind, tag := q.tag, result := r, fields := fields }) := by
  intro t
  have hown := u.conclude_chain l q r fields
  rw [hu] at hown
  have hready : (firstReady ((u.conclude l q (.reply r fields)).chain l).places).isSome = true := by
    rw [hown]
    exact firstReady_answered _ (Chain.findSome_of_next hn)
  have hshows := State.startTx_shows _ l hready
  have hdelivery := State.startTx_delivery _ l hready
  rw [hown] at hshows hdelivery
  have hother : t.chain (otherLink l) = u.chain (otherLink l) :=
    (State.startTx_other _ (otherLink_ne l)).trans (u.replacePlace_other _ (otherLink_ne l))
  exact ⟨hother.trans (hu _), hdelivery, hshows⟩

theorem exec_unknownKindRequest {s : State} {l : Link} {q : Request} (hr : s.inReset = false)
    (hn : (s.chain l).nextRequest = some q) (hk : requestKind q.kind = none) :
    exec (.unknownKindRequest l) s =
      .next (((s.renewLease l).conclude l q
        (.reply (if s.session.isOpen l then .unknownKind else .noSession) [])).startTx l) := by
  simp only [exec, execUnknownKindRequest, State.whenRunning_running hr, hn, hk, if_true]

/-- Settles O41: the first of checks 1, 3 and 4 that fails turns the request away; check 2 answers an unknown KIND. -/
theorem refusedRequestsChangeNothing : Obligations.RefusedRequestsChangeNothing := by
  refine ⟨fun l k tag body s r fields hr hk hn hfails => ?_, fun l kind tag body s hr hn hkind => ?_⟩
  · obtain ⟨sel, act, hsel, hexec⟩ := exec_kindCommand l tag body hk s
    refine State.serve_turnsAway hr hn hsel hexec ?_
    rcases hfails with ⟨hhello, hclosed, rfl, rfl⟩ | ⟨hopen, hformat, rfl, rfl⟩ |
      ⟨hopen, hformat, hneeds, hfree, rfl, rfl⟩ | ⟨hopen, hformat, hneeds, hheld, rfl, rfl⟩
    · exact State.refusal_noSession body hhello hclosed
    · exact State.refusal_badFormat hopen hformat
    · rw [State.refusal_authority hopen hformat hneeds, hfree]
      rfl
    · rw [State.refusal_authority hopen hformat hneeds, hheld]
      exact if_neg (otherLink_ne l)
  · refine ⟨_, exec_unknownKindRequest hr hn hkind, ?_, State.concluded_startTx _ _ hn (s.renewLease_chain l)⟩
    rw [State.startTx_frame, State.conclude_frame, State.renewLease_eq]

end Sys2Proof.Machine
end

section
/-! SUPPORT. RESTART (11 R185): the requests it discards, and the restart it leaves pending. -/

namespace Sys2Proof.Machine

/-! ### The requests that wait behind -/

/-- A place that is filtered out holds no request in progress. -/
theorem noneWaiting_any_inProgress (places : List Place) :
    (noneWaiting places).any Place.isInProgress = places.any Place.isInProgress := by
  rw [noneWaiting, List.any_filter]
  congr 1
  funext x
  cases x <;> rfl

theorem discardWaiting_any_inProgress (places : List Place) :
    (discardWaiting places).any Place.isInProgress = places.any Place.isInProgress := by
  induction places with
  | nil => rfl
  | cons x rest ih =>
    cases x with
    | waiting k t b => exact congrArg (Place.isInProgress _ || ·) (noneWaiting_any_inProgress rest)
    | inProgress k t | ready r | onLine r => exact congrArg (Place.isInProgress _ || ·) ih

theorem discardWaiting_findSome_request (places : List Place) :
    (discardWaiting places).findSome? Place.request? = places.findSome? Place.request? := by
  induction places with
  | nil => rfl
  | cons x rest ih =>
    cases x with
    | waiting k t b => rfl
    | inProgress k t | ready r | onLine r => exact ih

/-- The chain of a link whose RESTART has been accepted (11 R185 step 2). -/
def Chain.discarding (c : Chain) : Chain := { c with places := discardWaiting c.places }

/-- The request being taken is not among those discarded. -/
theorem Chain.discarding_nextRequest (c : Chain) : c.discarding.nextRequest = c.nextRequest := by
  rw [Chain.nextRequest, Chain.nextRequest, Chain.discarding, discardWaiting_any_inProgress, discardWaiting_findSome_request]

/-- The reply takes the place of the oldest request waiting, and of the places behind it those with a request are gone. -/
theorem discardWaiting_answered {before : List Place} (h : ∀ x ∈ before, Place.request? x = none) (k t : Byte) (b : List Byte)
    (behind : List Place) (r : Reply) :
    replaceFirst (Place.answerWith r) (discardWaiting (before ++ .waiting k t b :: behind)) =
      before ++ .ready r :: behind.filter fun x => (Place.request? x).isNone := by
  induction before with
  | nil => rfl
  | cons x rest ih =>
    have hrest := ih fun y hy => h y (List.mem_cons_of_mem _ hy)
    cases x with
    | waiting k t b => exact nomatch h _ List.mem_cons_self
    | inProgress k t | ready r | onLine r => exact congrArg (List.cons _) hrest

/-! ### The request -/

/-- The state an accepted RESTART leaves, but for its reply (11 R182, R185). -/
def State.restarting (s : State) (l : Link) : State :=
  { s with session := { s.session with lease := some 30000, restartPending := some l } }.setChain l (s.chain l).discarding

/-- That state with the reply in the place of its request. -/
def State.restartAnswered (s : State) (l : Link) (tag : Byte) : State :=
  (s.restarting l).conclude l { kind := ReqKind.restart.code, tag := tag, body := [] } (.reply .ok [])

theorem State.restarting_chain (s : State) (l : Link) : (s.restarting l).chain l = (s.chain l).discarding :=
  State.chain_setChain_self _ l _

theorem State.restarting_other (s : State) (l : Link) : (s.restarting l).chain (otherLink l) = s.chain (otherLink l) := by
  cases l <;> rfl

/-- The holder's lease renewed, a RESTART is accepted unless one is pending (11 R185). -/
theorem State.restartRequest_accepted {s : State} {l : Link} (hh : s.session.holder = some l)
    (hp : s.session.restartPending = none) :
    (s.renewLease l).restartRequest l = (s.restarting l, .reply .ok []) := by
  have hlease : s.leaseAfter l = some 30000 := if_pos hh
  have hnone : ¬ (s.sessionAfter l).restartPending.isSome = true := by simp [State.sessionAfter, hp]
  rw [State.renewLease_eq, State.restartRequest, if_neg hnone]
  simp only [State.restarting, State.sessionAfter, hlease, State.modifySession]
  cases l <;> rfl

/-- An event without a record drops nothing (08 R145). -/
theorem State.dropped_zero {s : State} (hb : s.journal.length ≤ Config.journalCapacity) (d : Delivery) : s.dropped 0 d = d := by
  simp [State.dropped, Nat.sub_eq_zero_of_le hb]

/-- A RESTART accepted: its reply is queued over the places it leaves, and the deliveries make their offers (09 R155, 10 R174). -/
theorem Accepts.restarts {s : State} {l : Link} {tag : Byte} (h : Accepts s l .restart tag [])
    (hp : s.session.restartPending = none) :
    ∃ t, exec (.restart l) s = .next t ∧ t = { s.restarting l with chainA := t.chainA, chainB := t.chainB } ∧
      Undisturbed (s.chain (otherLink l)) (t.chain (otherLink l)) ∧
      (t.chain l).delivery = s.reported t 0 (s.chain l).delivery ∧
      Shows (s.chain l) (t.chain l)
        ((s.chain l).discarding.answered { kind := 0x05, tag := tag, result := .ok, fields := [] }) := by
  have hexec : exec (.restart l) s = .next (s.restartAnswered l tag).finish := by
    have hserve := h.serve anyRequest (fun _ u => u.restartRequest l) rfl
    have hrenew : s.renewFor l .restart = s.renewLease l := if_neg (by decide)
    simp only [hrenew, State.restartRequest_accepted (h.authority rfl) hp] at hserve
    exact congrArg Host.Outcome.next hserve
  have hframe : (s.restartAnswered l tag).finish =
      { s.restarting l with chainA := (s.restartAnswered l tag).finish.chainA,
                            chainB := (s.restartAnswered l tag).finish.chainB } := by
    unfold State.restartAnswered
    rw [State.finish_frame, State.conclude_frame]
  have hheld : (s.restartAnswered l tag).finish.isHeld = (s.restartAnswered l tag).isHeld := by
    rw [State.finish_frame]
    rfl
  have hown : (s.setChain l (s.chain l).discarding).chain l = (s.chain l).discarding := State.chain_setChain_self _ _ _
  have hother : (s.setChain l (s.chain l).discarding).chain (otherLink l) = s.chain (otherLink l) := by cases l <;> rfl
  obtain ⟨⟨hshows, hundisturbed⟩, hdelivery⟩ :=
    Replies.of_finish (s := s.setChain l (s.chain l).discarding) (u := s.restarting l) (k := .restart) (r := .ok) (fields := [])
      (by rw [hown, Chain.discarding_nextRequest]; exact h.next) (by rw [hown, State.restarting_chain]; exact ⟨rfl, rfl, rfl⟩)
      (.of_eq (by rw [State.restarting_other, hother]))
  rw [hown] at hshows
  rw [hother] at hundisturbed
  rw [State.restarting_chain] at hdelivery
  refine ⟨_, hexec, hframe, hundisturbed, ?_, hshows⟩
  rw [State.reported_eq, State.dropped_zero h.journal, hheld]
  exact hdelivery

/-- Settles O39: a RESTART is accepted or finds one pending, and a CONFIRM that finds one is discarded. -/
theorem restartBecomesPending : Obligations.RestartBecomesPending := by
  refine ⟨fun l tag s h => ⟨fun hp => ?_, fun hp => ?_⟩, fun l body s hr hp => ?_⟩
  · obtain ⟨t, ht, hframe, hundisturbed, hdelivery, hshows⟩ := h.restarts hp
    refine ⟨t, ht, ?_, hundisturbed, hdelivery, fun before behind hplaces hbefore => ?_⟩
    · rw [hframe]
      cases l <;> rfl
    · rw [Chain.answered, Chain.discarding, hplaces, discardWaiting_answered hbefore] at hshows
      exact hshows
  · refine h.turnsAway rfl rfl (by decide) (by decide) ?_
    have hpending : (s.renewLease l).session.restartPending.isSome = true := by
      rw [State.renewLease_session]
      exact Option.isSome_iff_ne_none.mpr hp
    exact if_pos hpending
  · rw [exec, execConfirm, State.whenRunning_running hr, if_pos hp]

end Sys2Proof.Machine
end

section
/-! SUPPORT. HELLO and BYE (10 R178, R179): the session that closes, with its delivery and its authority, and the one that opens. -/

namespace Sys2Proof.Machine

/-! ### The authority dropped (10 R179 step 2) -/

/-- The record of the authority that a closing session gives up. -/
def State.droppedItems (s : State) (l : Link) : List Item :=
  if s.session.holder = some l then [(.authority .dropped l, linkSource l, none, none)] else []

/-- The session unit once a closing session has given up its authority. -/
def SessionUnit.freedBy (u : SessionUnit) (l : Link) : SessionUnit := if u.holder = some l then u.free else u

theorem State.droppedItems_length (s : State) (l : Link) : (s.droppedItems l).length ≤ 1 := by
  unfold State.droppedItems
  split <;> simp

theorem State.dropAuthority_session (s : State) (l : Link) : (s.dropAuthority l).session = s.session.freedBy l := by
  unfold State.dropAuthority SessionUnit.freedBy
  split
  · exact State.append_session _ _ _ _ _
  · rfl

theorem State.dropAuthority_frame (s : State) (l : Link) :
    s.dropAuthority l =
      { s with session := (s.dropAuthority l).session, journal := (s.dropAuthority l).journal,
               nextSeq := (s.dropAuthority l).nextSeq, chainA := (s.dropAuthority l).chainA,
               chainB := (s.dropAuthority l).chainB } := by
  unfold State.dropAuthority
  split
  · exact State.eq_of_fields (by simp [State.appendBare])
  · rfl

theorem State.dropAuthority_appends {s : State} (hb : s.journal.length ≤ Config.journalCapacity) (l : Link) :
    Appends s (s.dropAuthority l) (s.droppedItems l) := by
  unfold State.dropAuthority State.droppedItems
  split
  · exact .first (u := s.modifySession SessionUnit.free) hb rfl rfl (s.modifySession_chain _) _ _ none none
  · exact .nothing hb rfl rfl fun _ => rfl

/-! ### The session closed -/

theorem SessionUnit.setOpen_setOpen (u : SessionUnit) (l : Link) (a b : Bool) :
    (u.setOpen l a).setOpen l b = u.setOpen l b := by
  cases l <;> rfl

theorem State.closeSession_session (s : State) (l : Link) (act : SessionAction) :
    (s.closeSession l act).session = (s.session.freedBy l).setOpen l false := by
  rw [State.closeSession, State.appendBare, State.append_session, State.modifySession, State.dropAuthority_session,
    State.modifyDelivery_session]

theorem State.closeSession_frame (s : State) (l : Link) (act : SessionAction) :
    s.closeSession l act =
      { s with session := (s.closeSession l act).session, journal := (s.closeSession l act).journal,
               nextSeq := (s.closeSession l act).nextSeq, chainA := (s.closeSession l act).chainA,
               chainB := (s.closeSession l act).chainB } := by
  unfold State.closeSession
  rw [State.dropAuthority_frame]
  exact State.eq_of_fields (by simp [State.appendBare])

theorem Appends.modifySession {s u : State} {items : List Item} (h : Appends s u items) (f : SessionUnit → SessionUnit) :
    Appends s (u.modifySession f) items :=
  h.congr rfl rfl rfl (u.modifySession_chain f)

/-- Once the delivery is OFF, closing a session appends its records and no more (08 R143, 10 R179). -/
theorem State.closeSession_appends {s : State} (hb : s.journal.length ≤ Config.journalCapacity) (l : Link) (act : SessionAction) :
    Appends (s.modifyDelivery l Delivery.close) (s.closeSession l act)
      (s.droppedItems l ++ [(.session act l, linkSource l, none, none)]) := by
  have hitems : (s.modifyDelivery l Delivery.close).droppedItems l = s.droppedItems l := by cases l <;> rfl
  have hdropped := State.dropAuthority_appends (s := s.modifyDelivery l Delivery.close) (by simpa using hb) l
  rw [hitems] at hdropped
  have hshort : (s.droppedItems l).length < Config.journalCapacity := Nat.lt_of_le_of_lt (s.droppedItems_length l) (by decide)
  exact (hdropped.modifySession fun u => u.setOpen l false).append _ _ none none hshort

/-- A session that closes leaves no trace of the lease renewed as its request was taken (11 R182, 10 R179). -/
theorem State.renewLease_closeSession (s : State) (l : Link) (act : SessionAction) :
    (s.renewLease l).closeSession l act = s.closeSession l act := by
  by_cases hh : s.session.holder = some l
  · have hdropped : ((s.renewLease l).modifyDelivery l Delivery.close).dropAuthority l =
        (s.modifyDelivery l Delivery.close).dropAuthority l := by
      have hfree : ((s.renewLease l).modifyDelivery l Delivery.close).modifySession SessionUnit.free =
          (s.modifyDelivery l Delivery.close).modifySession SessionUnit.free := by
        rw [State.renewLease_eq]
        cases l <;> rfl
      rw [State.dropAuthority, State.dropAuthority, if_pos (by simpa [State.renewLease_session, State.sessionAfter] using hh),
        if_pos (by simpa using hh), hfree]
    rw [State.closeSession, hdropped, State.closeSession]
  · rw [State.renewLease, if_neg hh]

/-- A request that turns its link's delivery OFF and appends records: the delivery has nothing to drop and nothing to offer
(09 R153, R155, R163). -/
theorem Accepts.closes {s : State} {l : Link} {k : ReqKind} {tag : Byte} (h : Accepts s l k tag []) {c : Instr}
    {act : Request → State → State × Answer} {u : State} {fields : List Byte} {items : List Item}
    (hc : exec c s = .next (s.serve l k anyRequest act)) (hk : k.reads = false)
    (ha : act { kind := k.code, tag := tag, body := [] } (s.renewFor l k) = (u, .reply .ok fields))
    (hu : Appends (s.modifyDelivery l Delivery.close) u items) :
    ∃ t, exec c s = .next t ∧ t = { u with chainA := t.chainA, chainB := t.chainB } ∧ Replies s t l k tag .ok fields ∧
      Grows s t items ∧ (t.chain l).delivery = (s.chain l).delivery.close := by
  have hoff : (s.chain l).delivery.close.state ≠ .live := by simp [Delivery.close]
  have hown : u.chain l = { s.chain l with delivery := (s.chain l).delivery.close } := by
    rw [hu.chain l, State.modifyDelivery, State.chain_setChain_self, State.dropped_idle _ _ hoff]
  have hother : Undisturbed (s.chain (otherLink l)) (u.chain (otherLink l)) := by
    have hundisturbed := (hu.deliveryOnly (otherLink l)).undisturbed
    rwa [State.modifyDelivery, State.chain_setChain, if_neg (otherLink_ne l)] at hundisturbed
  obtain ⟨t, ht, hframe, hreplies, hdelivery⟩ := h.acted (sel := anyRequest) rfl hk ha (by rw [hown]; exact ⟨rfl, rfl, rfl⟩) hother
  refine ⟨t, by rw [hc, ht], hframe, hreplies, ?_, by rw [hdelivery, hown, Delivery.offerUpTo_idle _ _ _ hoff]⟩
  rw [hframe]
  simpa [Grows] using hu.grows

/-! ### The session opened -/

theorem State.openSession_closed {s : State} {l : Link} (ho : s.session.isOpen l = false) :
    s.openSession l = (s.modifySession fun u => u.setOpen l true).append (.session .opened l) (linkSource l) none none := by
  rw [State.openSession, if_neg (by simp [ho])]
  rfl

theorem State.openSession_reopened {s : State} {l : Link} (ho : s.session.isOpen l = true) :
    s.openSession l =
      ((s.closeSession l .closedHello).modifySession fun u => u.setOpen l true).append (.session .opened l) (linkSource l)
        none none := by
  rw [State.openSession, if_pos ho]
  rfl

theorem State.openSession_appends_closed {s : State} {l : Link} (hb : s.journal.length ≤ Config.journalCapacity)
    (ho : s.session.isOpen l = false) : Appends s (s.openSession l) [(.session .opened l, linkSource l, none, none)] := by
  rw [State.openSession_closed ho]
  exact .first (u := s.modifySession fun u => u.setOpen l true) hb rfl rfl (s.modifySession_chain _) _ _ none none

/-- The records of a HELLO under an open session, in their order (10 R178). -/
theorem State.openSession_appends_reopened {s : State} {l : Link} (hb : s.journal.length ≤ Config.journalCapacity)
    (ho : s.session.isOpen l = true) :
    Appends (s.modifyDelivery l Delivery.close) (s.openSession l)
      (s.droppedItems l ++
        [(.session .closedHello l, linkSource l, none, none), (.session .opened l, linkSource l, none, none)]) := by
  have hclosed := State.closeSession_appends hb l .closedHello
  have hshort := s.droppedItems_length l
  rw [State.openSession_reopened ho, List.append_cons]
  exact (hclosed.modifySession fun u => u.setOpen l true).append _ _ none none
    (by rw [List.length_append]; simp only [List.length_cons, List.length_nil, Config.journalCapacity]; omega)

theorem State.openSession_frame (s : State) (l : Link) :
    s.openSession l =
      { s with session := (s.openSession l).session, journal := (s.openSession l).journal,
               nextSeq := (s.openSession l).nextSeq, chainA := (s.openSession l).chainA,
               chainB := (s.openSession l).chainB } := by
  cases ho : s.session.isOpen l with
  | false =>
    rw [State.openSession_closed ho]
    exact State.eq_of_fields (by simp)
  | true =>
    rw [State.openSession_reopened ho, State.closeSession_frame]
    exact State.eq_of_fields (by simp)

/-- The greeting of a HELLO reply, read in the state that the transmitters leave (10 R178). -/
theorem State.openSession_helloFields {s t : State} {l : Link}
    (ht : t = { s.openSession l with chainA := t.chainA, chainB := t.chainB }) :
    (s.openSession l).helloFields =
      [0x4A, 0x41, 0x34, 0x38, 0x03] ++ be4 s.generation.toNat ++ be4 t.oldestSeq.toNat ++ be4 t.newestSeq.toNat ++
        [boolCode s.time.isSet] := by
  have hold : t.oldestSeq = (s.openSession l).oldestSeq := by rw [ht]; rfl
  have hnew : t.newestSeq = (s.openSession l).newestSeq := by rw [ht]; rfl
  have hgeneration : (s.openSession l).generation = s.generation := by rw [State.openSession_frame]
  have htime : (s.openSession l).time = s.time := by rw [State.openSession_frame]
  rw [State.helloFields, hold, hnew, hgeneration, htime]
  rfl

/-- Settles O36: HELLO opens a session, or closes one and opens the next; BYE closes one. -/
theorem helloOpensAndByeCloses : Obligations.HelloOpensAndByeCloses := by
  intro l tag s src held dropped freed greeting
  refine ⟨fun h => ?_, fun h => ?_⟩
  · cases ho : s.session.isOpen l with
    | false =>
      obtain ⟨t, ht, hframe, hacts⟩ :=
        h.acts (c := .hello l) (u := s.openSession l) (fields := (s.openSession l).helloFields) rfl rfl rfl rfl
          (State.openSession_appends_closed h.journal ho)
      rw [State.openSession_helloFields hframe] at hacts
      refine ⟨t, ht, ?_, fun _ => ⟨?_, hacts⟩, nofun⟩
      · rw [hframe, State.openSession_frame]
      · rw [hframe, State.openSession_closed ho, State.append_session]
        rfl
    | true =>
      obtain ⟨t, ht, hframe, hreplies, hgrows, hdelivery⟩ :=
        h.closes (c := .hello l) (u := s.openSession l) (fields := (s.openSession l).helloFields) rfl rfl rfl
          (State.openSession_appends_reopened h.journal ho)
      rw [State.openSession_helloFields hframe] at hreplies
      refine ⟨t, ht, ?_, nofun, fun _ => ⟨?_, hreplies, hgrows, hdelivery⟩⟩
      · rw [hframe, State.openSession_frame]
      · rw [hframe, State.openSession_reopened ho, State.append_session, State.modifySession, State.closeSession_session,
          SessionUnit.setOpen_setOpen]
        rfl
  · have hclose : (s.renewFor l .bye).closeSession l .closedBye = s.closeSession l .closedBye := s.renewLease_closeSession l _
    obtain ⟨t, ht, hframe, hreplies, hgrows, hdelivery⟩ :=
      h.closes (c := .bye l) (fields := []) rfl rfl (by rw [hclose]) (State.closeSession_appends h.journal l .closedBye)
    refine ⟨t, ht, ?_, hreplies, ?_, hgrows, hdelivery⟩
    · rw [hframe, State.closeSession_frame]
    · rw [hframe, State.closeSession_session]
      rfl

end Sys2Proof.Machine
end

section
/-! SUPPORT. Authority (11 R181 to R184): a CLAIM that grants it or renews it, and a RELEASE or an expired lease that frees it. -/

namespace Sys2Proof.Machine

/-! ### A change of the session unit with its record -/

/-- A record appended beside a change of the session unit touches no other part but the journal and what an append does to the
chains. -/
theorem State.sessionRecord_frame (s : State) (x : SessionUnit) (kind : RecordKind) (src : Source) {t : State}
    (ht : t = { ({ s with session := x } : State).appendBare kind src with chainA := t.chainA, chainB := t.chainB }) :
    t = { s with session := x, journal := t.journal, nextSeq := t.nextSeq, chainA := t.chainA, chainB := t.chainB } := by
  rw [ht]
  exact State.eq_of_fields (by simp [State.appendBare])

theorem State.sessionRecord_appends {s : State} (hb : s.journal.length ≤ Config.journalCapacity) (x : SessionUnit)
    (kind : RecordKind) (src : Source) :
    Appends s (({ s with session := x } : State).appendBare kind src) [(kind, src, none, none)] :=
  .first (u := { s with session := x }) hb rfl rfl (State.chain_congr rfl rfl) _ _ none none

/-- A request of its link that changes the session unit, with one record (10 R174). -/
theorem Accepts.recordsSession {s : State} {l : Link} {k : ReqKind} {tag : Byte} {body : List Byte} (h : Accepts s l k tag body)
    {c : Instr} {act : Request → State → State × Answer} {x : SessionUnit} {kind : RecordKind} {fields : List Byte}
    (hc : exec c s = .next (s.serve l k anyRequest act)) (hk : k.reads = false)
    (ha : act { kind := k.code, tag := tag, body := body } (s.renewFor l k) =
      (({ s with session := x } : State).appendBare kind (linkSource l), .reply .ok fields)) :
    ∃ t, exec c s = .next t ∧
      t = { s with session := x, journal := t.journal, nextSeq := t.nextSeq, chainA := t.chainA, chainB := t.chainB } ∧
      Acts s t l k tag fields [(kind, linkSource l, none, none)] := by
  obtain ⟨t, ht, hframe, hacts⟩ := h.acts hc rfl hk ha (State.sessionRecord_appends h.journal x kind _)
  exact ⟨t, ht, State.sessionRecord_frame s x kind _ hframe, hacts⟩

/-! ### The owner's answers (11 R183, R184) -/

/-- A link that does not hold authority renews no lease (11 R182). -/
theorem State.renewLease_of_not_holder {s : State} {l : Link} (hh : s.session.holder ≠ some l) : s.renewLease l = s := if_neg hh

/-- A renewal leaves the holder what a grant gives it (11 R182, R183). -/
theorem State.renewLease_of_holder {s : State} {l : Link} (hh : s.session.holder = some l) :
    s.renewLease l = { s with session := s.session.grant l } := by
  rw [State.renewLease, if_pos hh, SessionUnit.grant, ← hh, State.modifySession]

theorem State.claimRequest_free {s : State} (l : Link) (hh : s.session.holder = none) :
    s.claimRequest l =
      (({ s with session := s.session.grant l } : State).appendBare (.authority .taken l) (linkSource l),
        .reply .ok (linkCode (some l) :: be4 30000)) := by
  simp only [State.claimRequest, hh, State.appendBare, State.append_session]
  rfl

theorem State.claimRequest_holder {s : State} {l : Link} (hh : s.session.holder = some l) :
    s.claimRequest l =
      ({ s with session := s.session.grant l }, .reply .ok (linkCode (some l) :: be4 30000)) := by
  simp only [State.claimRequest, hh, if_true, State.renewLease_of_holder hh]
  rfl

theorem State.claimRequest_other {s : State} {l : Link} (hh : s.session.holder = some (otherLink l)) :
    s.claimRequest l = (s, .reply .heldByOther (linkCode (some (otherLink l)) :: be4 (s.session.lease.getD 0))) := by
  simp only [State.claimRequest, hh, if_neg (otherLink_ne l), SessionUnit.claimFields]

theorem State.releaseRequest_holder {s : State} {l : Link} (hh : s.session.holder = some l) :
    s.releaseRequest l =
      ((s.modifySession SessionUnit.free).appendBare (.authority .released l) (linkSource l), .reply .ok [0xFF]) := if_pos hh

theorem State.releaseRequest_other {s : State} {l : Link} (hh : s.session.holder ≠ some l) :
    s.releaseRequest l = (s, .reply .nothing [linkCode s.session.holder]) := if_neg hh

/-! ### The statements -/

/-- Settles O37: authority is free, held by the link, or held by the other link. -/
theorem claimGrantsOrNamesTheHolder : Obligations.ClaimGrantsOrNamesTheHolder := by
  intro l tag s h grants
  have hrenew : s.renewFor l .claim = s.renewLease l := if_neg (by decide)
  refine ⟨fun hfree => ?_, fun hheld => ?_, fun hother => ?_⟩
  · refine h.recordsSession (c := .claim l) rfl rfl ?_
    rw [hrenew, State.renewLease_of_not_holder (by simp [hfree])]
    exact State.claimRequest_free l hfree
  · have hanswer : (s.renewFor l .claim).claimRequest l =
        ({ s with session := s.session.grant l }, .reply .ok (linkCode (some l) :: be4 30000)) := by
      rw [hrenew, State.renewLease_of_holder hheld]
      exact State.claimRequest_holder rfl
    obtain ⟨t, ht, hframe, hacts⟩ :=
      h.acts (c := .claim l) rfl rfl rfl hanswer (.nothing h.journal rfl rfl (State.chain_congr rfl rfl))
    refine ⟨t, ht, ?_, hacts⟩
    rw [hframe]
    rfl
  · refine h.turnsAway rfl rfl (by decide) (by decide) ?_
    have hnot : s.session.holder ≠ some l := by simp [hother, otherLink_ne]
    rw [State.renewLease_of_not_holder hnot, State.claimRequest_other hother]

/-- LEASE_EXPIRY with a lease that is due frees authority with its record (11 R182). -/
theorem exec_leaseExpiry {s : State} {l : Link} (hr : s.inReset = false) (hh : s.session.holder = some l)
    (hl : s.session.lease = some 0) :
    exec .leaseExpiry s =
      .next ((({ s with session := s.session.free } : State).appendBare (.authority .expired l) .part).finish) := by
  have hdue : s.session.leaseDue = some l := by rw [SessionUnit.leaseDue, if_pos hl, hh]
  simp only [exec, execLeaseExpiry, State.whenRunning_running hr, hdue]
  rfl

/-- Settles O38: the holder's RELEASE and its lease's expiry free the session unit; a RELEASE of any other link is turned away. -/
theorem authorityIsFreedWithItsRecord : Obligations.AuthorityIsFreedWithItsRecord := by
  refine ⟨fun l tag s h => ⟨fun hheld => ?_, fun hnot => ?_⟩, fun l s hr hb hh hl => ?_⟩
  · refine h.recordsSession (c := .release l) rfl rfl ?_
    have hrenew : s.renewFor l .release = s.renewLease l := if_neg (by decide)
    rw [hrenew, State.renewLease_of_holder hheld]
    exact State.releaseRequest_holder rfl
  · refine h.turnsAway rfl rfl (by decide) (by decide) ?_
    rw [State.renewLease_of_not_holder hnot, State.releaseRequest_other hnot]
  · have happ := State.sessionRecord_appends hb s.session.free (.authority .expired l) .part
    exact ⟨_, exec_leaseExpiry hr hh hl, happ.finish_undisturbed,
      State.sessionRecord_frame s _ _ _ (State.finish_frame _), happ.finish_grows⟩

end Sys2Proof.Machine
end

section
/-! SUPPORT. The session unit, the counters and the host lamp-test timer (06 R108, R112; 08 R136; 11 R181): the operations that
leave them alone. -/

namespace Sys2Proof.Machine

/-- The session unit, the two counters that wrap and the host lamp-test timer: all that the authority and the counters' ranges
are read from (06 R108, R112; 08 R136; 11 R181). -/
structure Vitals where
  session : SessionUnit
  cycle : Nat
  ms : Nat
  hostTimer : Option Nat

def State.vitals (s : State) : Vitals :=
  { session := s.session, cycle := s.output.cycle, ms := s.time.ms, hostTimer := s.output.hostTimer }

theorem State.vitals_congr {s t : State} (hs : t.session = s.session) (ho : t.output = s.output) (ht : t.time = s.time) :
    t.vitals = s.vitals := by
  simp only [State.vitals, hs, ho, ht]

/-! ### The updates of the tables -/

@[simp] theorem State.modifyPoint_vitals (s : State) (p : Point) (f : PointState → PointState) :
    (s.modifyPoint p f).vitals = s.vitals := rfl

@[simp] theorem State.modifyGroup_vitals (s : State) (g : Group) (f : GroupState → GroupState) :
    (s.modifyGroup g f).vitals = s.vitals := rfl

@[simp] theorem State.modifyEntry_vitals (s : State) (p : Point) (f : Entry → Entry) :
    (s.modifyEntry p f).vitals = s.vitals := rfl

@[simp] theorem State.dropEntry_vitals (s : State) (p : Point) : (s.dropEntry p).vitals = s.vitals := rfl

@[simp] theorem State.openEntry_vitals (s : State) (e : Entry) : (s.openEntry e).vitals = s.vitals := rfl

@[simp] theorem State.setPhase_vitals (s : State) (p : Point) (ph : Phase) (timer : Option Nat) :
    (s.setPhase p ph timer).vitals = s.vitals := rfl

@[simp] theorem State.modifyOperator_vitals (s : State) (f : OperatorUnit → OperatorUnit) :
    (s.modifyOperator f).vitals = s.vitals := rfl

@[simp] theorem State.advanceGeneration_vitals (s : State) : s.advanceGeneration.vitals = s.vitals := rfl

@[simp] theorem State.setChain_vitals (s : State) (l : Link) (c : Chain) : (s.setChain l c).vitals = s.vitals :=
  State.vitals_congr (by simp) (by simp) (by simp)

@[simp] theorem State.modifyDelivery_vitals (s : State) (l : Link) (f : Delivery → Delivery) :
    (s.modifyDelivery l f).vitals = s.vitals := s.setChain_vitals l _

@[simp] theorem State.replacePlace_vitals (s : State) (l : Link) (f : Place → Option Place) :
    (s.replacePlace l f).vitals = s.vitals := s.setChain_vitals l _

@[simp] theorem State.setReceiver_vitals (s : State) (l : Link) (x : Receiver) : (s.setReceiver l x).vitals = s.vitals :=
  s.setChain_vitals l _

@[simp] theorem State.freeLine_vitals (s : State) (l : Link) : (s.freeLine l).vitals = s.vitals := s.setChain_vitals l _

/-! ### The shared operations -/

@[simp] theorem State.append_vitals (s : State) (k : RecordKind) (src : Source) (p : Option Point) (g : Option Group) :
    (s.append k src p g).vitals = s.vitals := State.vitals_congr (by simp) (by simp) (by simp)

@[simp] theorem State.appendPoint_vitals (s : State) (k : RecordKind) (src : Source) (p : Point) :
    (s.appendPoint k src p).vitals = s.vitals := s.append_vitals k src _ _

@[simp] theorem State.appendBare_vitals (s : State) (k : RecordKind) (src : Source) : (s.appendBare k src).vitals = s.vitals :=
  s.append_vitals k src _ _

@[simp] theorem State.startTx_vitals (s : State) (l : Link) : (s.startTx l).vitals = s.vitals :=
  State.vitals_congr (by simp) (by simp) (by simp)

@[simp] theorem State.finish_vitals (s : State) : s.finish.vitals = s.vitals :=
  State.vitals_congr (by simp) (by simp) (by simp)

/-- The output unit is told a phase and a mark; of its own it changes the latches alone (06 R117 to R119). -/
@[simp] theorem State.tell_vitals (s : State) (p : Point) (ph : Phase) (mark : Bool) : (s.tell p ph mark).vitals = s.vitals := rfl

@[simp] theorem State.silence_vitals (s : State) (src : Source) : (s.silence src).vitals = s.vitals := by
  unfold State.silence
  split
  · rw [State.appendBare_vitals]; rfl
  · rfl

theorem State.lampSources_vitals (s : State) (src : Source) (f : OutputUnit → OutputUnit) :
    (s.lampSources src f).vitals = (s.modifyOutput f).vitals := by
  unfold State.lampSources
  dsimp only
  split <;> simp

@[simp] theorem State.closeEntry_vitals (s : State) (p : Point) (src : Source) : (s.closeEntry p src).vitals = s.vitals := by
  rcases s.closeEntry_cases p src with ⟨-, h⟩ | ⟨e, -, -, h⟩ | ⟨e, -, -, h⟩ <;> simp [h]

@[simp] theorem State.clearFirstOut_vitals (s : State) (g : Group) (src : Source) :
    (s.clearFirstOut g src).1.vitals = s.vitals := by
  unfold State.clearFirstOut
  split <;> simp

@[simp] theorem State.move_vitals (s : State) (p : Point) (ph : Phase) (timer : Option Nat) (kind : RecordKind) (src : Source)
    (upd : Entry → Entry) : (s.move p ph timer kind src upd).vitals = s.vitals := by
  unfold State.move
  dsimp only
  split <;> simp

/-! ### The sequence engine and the chatter unit -/

@[simp] theorem State.openEpisode_vitals (s : State) (p : Point) (d : PointDef) : (s.openEpisode p d).vitals = s.vitals := by
  unfold State.openEpisode
  dsimp only
  split <;> simp

@[simp] theorem State.reraise_vitals (s : State) (p : Point) : (s.reraise p).vitals = s.vitals := by
  unfold State.reraise
  split <;> simp

@[simp] theorem State.engineRaise_vitals (s : State) (p : Point) (d : PointDef) : (s.engineRaise p d).vitals = s.vitals := by
  unfold State.engineRaise
  split <;> simp

@[simp] theorem State.engineClear_vitals (s : State) (p : Point) : (s.engineClear p).vitals = s.vitals := by
  unfold State.engineClear
  split <;> simp

@[simp] theorem State.ackPoint_vitals (s : State) (p : Point) (src : Source) : (s.ackPoint p src).1.vitals = s.vitals := by
  unfold State.ackPoint
  split <;> simp

@[simp] theorem State.resetPoint_vitals (s : State) (p : Point) (src : Source) : (s.resetPoint p src).1.vitals = s.vitals := by
  unfold State.resetPoint
  split <;> simp

@[simp] theorem State.raise_vitals (s : State) (p : Point) (d : PointDef) : (s.raise p d).vitals = s.vitals := by
  unfold State.raise State.chatterRaise State.suppress
  repeat' split
  all_goals simp

@[simp] theorem State.clear_vitals (s : State) (p : Point) (d : PointDef) : (s.clear p d).vitals = s.vitals := by
  unfold State.clear State.chatterClear
  repeat' split
  all_goals simp

@[simp] theorem State.restorePoint_vitals (s : State) (p : Point) (cause : RestoreCause) (src : Source) :
    (s.restorePoint p cause src).vitals = s.vitals := by
  simp [State.restorePoint]

/-! ### Qualification -/

@[simp] theorem State.becomeAbnormal_vitals (s : State) (p : Point) (d : PointDef) :
    (s.becomeAbnormal p d).vitals = s.vitals := by
  simp [State.becomeAbnormal]

@[simp] theorem State.becomeNormal_vitals (s : State) (p : Point) (d : PointDef) : (s.becomeNormal p d).vitals = s.vitals := by
  simp [State.becomeNormal]

@[simp] theorem State.beginAbnormal_vitals (s : State) (p : Point) (d : PointDef) :
    (s.beginAbnormal p d).vitals = s.vitals := by
  unfold State.beginAbnormal
  split <;> simp

theorem State.takeAbnormal_vitals (s : State) (p : Point) (d : PointDef) : (s.takeAbnormal p d).vitals = s.vitals := by
  unfold State.takeAbnormal
  split <;> simp

theorem State.takeNormal_vitals (s : State) (p : Point) (d : PointDef) : (s.takeNormal p d).vitals = s.vitals := by
  unfold State.takeNormal
  repeat' split
  all_goals simp

@[simp] theorem State.qualify_vitals (s : State) (p : Point) (d : PointDef) (level : Level) :
    (s.qualify p d level).vitals = s.vitals := by
  cases level
  · exact s.takeNormal_vitals p d
  · exact s.takeAbnormal_vitals p d

/-! ### Walks, panel and deliveries -/

@[simp] theorem State.beginAction_vitals (s : State) (a : Action) : (s.beginAction a).vitals = s.vitals := rfl

@[simp] theorem State.advanceAction_vitals (s : State) (src : Source) (a : Action) (pos : Option WalkPos) :
    (s.advanceAction src a pos).vitals = s.vitals := State.vitals_congr (by simp) (by simp) (by simp)

@[simp] theorem State.beginPress_vitals (s : State) (x : Press) : (s.beginPress x).vitals = s.vitals := by
  cases x <;> simp [State.beginPress]

/-- The TEST line sets its own level and no timer (05 Table 5-1, 06 R112). -/
@[simp] theorem State.takePanelTransition_vitals (s : State) (line : PanelLine) (active : Bool) :
    (s.takePanelTransition line active).vitals = s.vitals := by
  unfold State.takePanelTransition State.takePress
  repeat' split
  · exact s.lampSources_vitals _ _
  all_goals simp

@[simp] theorem State.retransmissionExpiry_vitals (s : State) (l : Link) : (s.retransmissionExpiry l).vitals = s.vitals := by
  unfold State.retransmissionExpiry
  split <;> simp

/-! ### Requests -/

@[simp] theorem State.conclude_vitals (s : State) (l : Link) (q : Request) (a : Answer) : (s.conclude l q a).vitals = s.vitals := by
  rw [State.conclude_frame]; rfl

@[simp] theorem State.settle_vitals (s : State) (l : Link) (k : ReqKind) (a : Answer) : (s.settle l k a).vitals = s.vitals := by
  rw [State.settle_frame]; rfl

theorem State.defineGroupRequest_vitals (s : State) (l : Link) (arg : Option (Group × GroupDef)) :
    (s.defineGroupRequest l arg).1.vitals = s.vitals := by
  unfold State.defineGroupRequest
  repeat' split
  all_goals simp [State.accepted, State.turnedAway, State.putGroup]

theorem State.undefineGroupRequest_vitals (s : State) (l : Link) (arg : Option Group) :
    (s.undefineGroupRequest l arg).1.vitals = s.vitals := by
  unfold State.undefineGroupRequest
  repeat' split
  all_goals simp [State.accepted, State.turnedAway, State.removeGroup]

theorem State.definePointRequest_vitals (s : State) (l : Link) (arg : Option (Point × PointDef)) :
    (s.definePointRequest l arg).1.vitals = s.vitals := by
  unfold State.definePointRequest
  repeat' split
  all_goals simp [State.accepted, State.turnedAway, State.putPoint]

theorem State.undefinePointRequest_vitals (s : State) (l : Link) (arg : Option Point) :
    (s.undefinePointRequest l arg).1.vitals = s.vitals := by
  unfold State.undefinePointRequest
  repeat' split
  all_goals simp [State.accepted, State.turnedAway, State.removePoint]

theorem State.serviceOutRequest_vitals (s : State) (l : Link) (arg : Option Point) :
    (s.serviceOutRequest l arg).1.vitals = s.vitals := by
  unfold State.serviceOutRequest
  repeat' split
  all_goals simp [State.accepted, State.turnedAway, State.takeOut]

@[simp] theorem State.putIn_vitals (s : State) (l : Link) (p : Point) (d : PointDef) : (s.putIn l p d).vitals = s.vitals := by
  unfold State.putIn
  dsimp only
  split <;> simp

theorem State.serviceInRequest_vitals (s : State) (l : Link) (arg : Option Point) :
    (s.serviceInRequest l arg).1.vitals = s.vitals := by
  unfold State.serviceInRequest
  repeat' split
  all_goals simp [State.accepted, State.turnedAway]

theorem State.restoreRequest_vitals (s : State) (l : Link) (arg : Option Point) :
    (s.restoreRequest l arg).1.vitals = s.vitals := by
  unfold State.restoreRequest State.restoreByRequest
  repeat' split
  all_goals simp

theorem State.operatorRequest_vitals (s : State) (kind : ActionKind) (l : Link) (tag : Byte) (zeros : List Byte)
    (scope : Option Scope) : (s.operatorRequest kind l tag zeros scope).1.vitals = s.vitals := by
  unfold State.operatorRequest
  repeat' split
  all_goals rfl

theorem State.subscribeRequest_vitals (s : State) (l : Link) (start : Option Seq) :
    (s.subscribeRequest l start).1.vitals = s.vitals := by
  unfold State.subscribeRequest
  split <;> simp

theorem State.unsubscribeRequest_vitals (s : State) (l : Link) : (s.unsubscribeRequest l).1.vitals = s.vitals := by
  unfold State.unsubscribeRequest
  dsimp only
  split <;> simp

end Sys2Proof.Machine
end

section
/-! SUPPORT. Every step keeps authority leased to a link in session, and the counters and the host lamp-test timer in their ranges
(06 R108, R112; 08 R136; 11 R181): the changes that events make of them, and the statement. -/

namespace Sys2Proof.Machine

/-! ### The session unit (11 R181) -/

/-- The lease runs exactly while there is a holder, for at most 30,000 ms, and the holder has an open session (11 R181). -/
def SessionUnit.leased (u : SessionUnit) : Prop :=
  (u.lease.isSome = true ↔ u.holder.isSome = true) ∧
    (∀ n, u.lease = some n → n ≤ Config.leaseMs) ∧ ∀ l, u.holder = some l → u.isOpen l = true

theorem State.authoritySound_iff (s : State) : s.authoritySound ↔ s.session.leased := Iff.rfl

/-- With no holder and no lease nothing is asked of the sessions. -/
theorem SessionUnit.leased_of_free {u : SessionUnit} (hh : u.holder = none) (hl : u.lease = none) : u.leased := by
  simp [SessionUnit.leased, hh, hl]

theorem SessionUnit.grant_leased {u : SessionUnit} {l : Link} (ho : u.isOpen l = true) : (u.grant l).leased := by
  refine ⟨Iff.rfl, fun n hn => ?_, fun m hm => ?_⟩
  · obtain rfl : Config.leaseMs = n := Option.some.inj hn
    exact le_rfl
  · obtain rfl : l = m := Option.some.inj hm
    cases l <;> exact ho

theorem SessionUnit.setOpen_isOpen (u : SessionUnit) (l m : Link) (b : Bool) :
    (u.setOpen l b).isOpen m = if m = l then b else u.isOpen m := by
  cases l <;> cases m <;> rfl

/-- A session may open at any time, and close unless its link is the holder. -/
theorem SessionUnit.setOpen_leased {u : SessionUnit} (h : u.leased) {l : Link} {b : Bool}
    (hb : b = false → u.holder ≠ some l) : (u.setOpen l b).leased := by
  obtain ⟨hlease, hmost, hopen⟩ := h
  have hholder : (u.setOpen l b).holder = u.holder := by cases l <;> rfl
  have hsame : (u.setOpen l b).lease = u.lease := by cases l <;> rfl
  rw [SessionUnit.leased, hholder, hsame]
  refine ⟨hlease, hmost, fun m hm => ?_⟩
  rw [SessionUnit.setOpen_isOpen]
  split
  · next hlink =>
    rw [hlink] at hm
    cases b with
    | true => rfl
    | false => exact absurd hm (hb rfl)
  · exact hopen m hm

/-- A session that closes gives up its authority before (10 R179). -/
theorem SessionUnit.closed_leased {u : SessionUnit} (h : u.leased) (l : Link) : ((u.freedBy l).setOpen l false).leased := by
  unfold SessionUnit.freedBy
  split
  · exact SessionUnit.setOpen_leased (SessionUnit.leased_of_free rfl rfl) nofun
  · next hother => exact SessionUnit.setOpen_leased h fun _ => hother

/-- The lease of the holder runs down (11 R182). -/
theorem SessionUnit.ticked_leased {u : SessionUnit} (h : u.leased) :
    ({ u with lease := countDown u.lease } : SessionUnit).leased := by
  obtain ⟨hlease, hmost, hopen⟩ := h
  rw [countDown_eq]
  refine ⟨by simpa using hlease, fun n hn => ?_, hopen⟩
  obtain ⟨m, hm, rfl⟩ := Option.map_eq_some_iff.mp hn
  exact (Nat.sub_le m 1).trans (hmost m hm)

/-! ### What keeps both invariants -/

/-- What holds of the authority and of the counters in `s` holds in `t`. -/
structure KeepsVitals (s t : State) : Prop where
  authority : s.authoritySound → t.authoritySound
  counters : s.countersSound → t.countersSound

theorem KeepsVitals.same {s t : State} (h : t.vitals = s.vitals) : KeepsVitals s t := by
  have hsession : t.session = s.session := congrArg Vitals.session h
  have hcycle : t.output.cycle = s.output.cycle := congrArg Vitals.cycle h
  have hms : t.time.ms = s.time.ms := congrArg Vitals.ms h
  have htimer : t.output.hostTimer = s.output.hostTimer := congrArg Vitals.hostTimer h
  constructor
  · rw [State.authoritySound_iff, State.authoritySound_iff, hsession]
    exact id
  · rw [State.countersSound, State.countersSound, hcycle, hms, htimer]
    exact id

theorem KeepsVitals.trans {s t u : State} (h : KeepsVitals s t) (k : KeepsVitals t u) : KeepsVitals s u :=
  ⟨k.authority ∘ h.authority, k.counters ∘ h.counters⟩

/-- Whatever an event does beside the session unit, the counters and the host timer makes no difference. -/
theorem KeepsVitals.congr {s t u : State} (h : KeepsVitals s t) (hu : u.vitals = t.vitals) : KeepsVitals s u := h.trans (.same hu)

theorem KeepsVitals.modifySession {s : State} {f : SessionUnit → SessionUnit} (h : s.session.leased → (f s.session).leased) :
    KeepsVitals s (s.modifySession f) := ⟨h, id⟩

/-- The host timer stopped, or started for 1 to 60,000 ms (06 R112). -/
theorem KeepsVitals.setHostTimer (s : State) {timer : Option Nat} (h : ∀ n, timer = some n → 1 ≤ n ∧ n ≤ 60000) :
    KeepsVitals s (s.modifyOutput fun u => { u with hostTimer := timer }) :=
  ⟨id, fun ⟨hcycle, hms, _⟩ => ⟨hcycle, hms, h⟩⟩

/-- The time set within the day (08 R136, R138). -/
theorem KeepsVitals.setTime (s : State) {x : Stamp} (h : x.ms ≤ Config.lastMsOfDay) : KeepsVitals s { s with time := x } :=
  ⟨id, fun ⟨hcycle, _, htimer⟩ => ⟨hcycle, h, htimer⟩⟩

theorem KeepsVitals.renewLease (s : State) (l : Link) : KeepsVitals s (s.renewLease l) := by
  unfold State.renewLease
  split
  · next hh =>
    refine .modifySession fun ⟨_, _, hopen⟩ => ?_
    have hgrant := SessionUnit.grant_leased (hopen l hh)
    rwa [SessionUnit.grant, ← hh] at hgrant
  · exact .same rfl

/-- An event that keeps both invariants while the part runs keeps them. -/
theorem KeepsVitals.whenRunning {s : State} {f : State → State} (h : KeepsVitals s (f s)) : KeepsVitals s (s.whenRunning f) := by
  unfold State.whenRunning
  split
  · exact .same rfl
  · exact h

/-- A request keeps both invariants when its owner does, and its owner acts under an open session, but for HELLO (10 R174). -/
theorem KeepsVitals.serve {s : State} {l : Link} {k : ReqKind} {sel : Request → Bool}
    {act : Request → State → State × Answer}
    (h : ∀ q u, (k ≠ .hello → u.session.isOpen l = true) → KeepsVitals u (act q u).1) :
    KeepsVitals s (s.serve l k sel act) := by
  have hrenews : KeepsVitals s (s.renewFor l k) := by
    unfold State.renewFor
    split
    · exact .same rfl
    · exact .renewLease s l
  unfold State.serve
  refine .whenRunning ?_
  dsimp only
  split
  · next q _ =>
    have hhandles : KeepsVitals (s.renewFor l k) ((s.renewFor l k).handle l k q act).1 := by
      unfold State.handle
      split
      · exact .same rfl
      · next hpass => exact h q _ fun hk => State.refusal_session hpass hk
    exact .congr (hrenews.trans hhandles) (by rw [State.settle_vitals, State.conclude_vitals])
  · exact .same rfl

/-- A request whose owner leaves the session unit, the counters and the host timer alone. -/
theorem KeepsVitals.serve_same {s : State} {l : Link} {k : ReqKind} {sel : Request → Bool}
    {act : Request → State → State × Answer} (h : ∀ q u, (act q u).1.vitals = u.vitals) :
    KeepsVitals s (s.serve l k sel act) :=
  .serve fun q u _ => .same (h q u)

/-! ### The owners of the requests -/

theorem KeepsVitals.closeSession (s : State) (l : Link) (act : SessionAction) : KeepsVitals s (s.closeSession l act) := by
  have hkeeps : KeepsVitals s (s.modifySession fun u => (u.freedBy l).setOpen l false) :=
    .modifySession fun h => SessionUnit.closed_leased h l
  refine hkeeps.congr ?_
  rw [State.closeSession_frame]
  simp only [State.vitals, State.closeSession_session]
  rfl

theorem KeepsVitals.openSession (s : State) (l : Link) : KeepsVitals s (s.openSession l) := by
  unfold State.openSession
  refine .congr (.trans ?_ (.modifySession fun h => SessionUnit.setOpen_leased (b := true) h nofun)) (State.appendBare_vitals _ _ _)
  split
  · exact .closeSession s l _
  · exact .same rfl

/-- A CLAIM that is acted on comes from a link in session (10 R174, 11 R183). -/
theorem KeepsVitals.claimRequest {s : State} {l : Link} (ho : s.session.isOpen l = true) :
    KeepsVitals s (s.claimRequest l).1 := by
  unfold State.claimRequest
  split
  · exact .congr (.modifySession fun _ => SessionUnit.grant_leased ho) (State.appendBare_vitals _ _ _)
  · split
    · exact .renewLease s l
    · exact .same rfl

theorem KeepsVitals.free (s : State) : KeepsVitals s (s.modifySession SessionUnit.free) :=
  .modifySession fun _ => SessionUnit.leased_of_free rfl rfl

theorem KeepsVitals.releaseRequest (s : State) (l : Link) : KeepsVitals s (s.releaseRequest l).1 := by
  unfold State.releaseRequest
  split
  · exact .congr (.free s) (State.appendBare_vitals _ _ _)
  · exact .same rfl

theorem KeepsVitals.restartRequest (s : State) (l : Link) : KeepsVitals s (s.restartRequest l).1 := by
  unfold State.restartRequest
  split
  · exact .same rfl
  · refine .congr (t := s.modifySession fun u => { u with restartPending := some l }) (.modifySession ?_) (by simp)
    exact fun ⟨hlease, hmost, hopen⟩ => ⟨hlease, hmost, fun m hm => by cases m <;> exact hopen _ hm⟩

theorem timeArg_ms {body : List Byte} {x : Stamp} (h : timeArg body = some x) : x.ms ≤ Config.lastMsOfDay := by
  unfold timeArg at h
  split at h
  · next hle =>
    cases h
    exact hle
  · cases h

/-- SET TIME sets a time within the day, or none. The body stays a variable here, so that no number of it is ever computed. -/
theorem KeepsVitals.serve_setTime {s : State} {l : Link} {parse : Request → Option Stamp}
    (h : ∀ q x, parse q = some x → x.ms ≤ Config.lastMsOfDay) :
    KeepsVitals s (s.serve l .setTime anyRequest fun q u => u.setTimeRequest l (parse q)) := by
  refine .serve fun q u _ => ?_
  cases hx : parse q with
  | none => exact .same rfl
  | some x => exact .congr (.setTime u (h q x hx)) (State.appendBare_vitals _ _ _)

theorem askedTimer_range {seconds : Nat} (hle : seconds ≤ 60) :
    ∀ n, askedTimer seconds = some n → 1 ≤ n ∧ n ≤ 60000 := by
  intro n hn
  unfold askedTimer at hn
  split at hn
  · cases hn
  · cases hn
    omega

theorem KeepsVitals.lampTestRequest (s : State) (l : Link) (seconds : Nat) : KeepsVitals s (s.lampTestRequest l seconds).1 := by
  by_cases hlong : 60 < seconds
  · rw [State.lampTestRequest_tooLong s l hlong]
    exact .same rfl
  · have hle : seconds ≤ 60 := Nat.not_lt.mp hlong
    rw [State.lampTestRequest_within s l hle]
    exact .congr (.setHostTimer s (askedTimer_range hle)) (s.lampSources_vitals _ _)

/-! ### Links, restarts and time -/

theorem KeepsVitals.confirmFrame (s : State) (l : Link) (body : List Byte) : KeepsVitals s (s.confirmFrame l body) := by
  unfold State.confirmFrame
  dsimp only
  split
  · split
    · exact .congr (.renewLease s l) (by simp)
    · exact .renewLease s l
  · exact .same rfl

theorem KeepsVitals.takeFrame (s : State) (l : Link) (q : Request) : KeepsVitals s (s.takeFrame l q) := by
  unfold State.takeFrame
  repeat' split
  · exact .same rfl
  · exact .confirmFrame s l _
  · exact .same (by simp)
  · exact .same rfl

/-- A restart leaves authority free and the host timer stopped (06 R123, 11 R186). -/
theorem KeepsVitals.warmRestart (s : State) : KeepsVitals s s.warmRestart := by
  rw [State.warmRestart_eq]
  have hwarm : KeepsVitals s s.warmBlocks :=
    ⟨fun _ => SessionUnit.leased_of_free rfl rfl, fun ⟨hcycle, hms, _⟩ => ⟨hcycle, hms, nofun⟩⟩
  exact hwarm.congr (State.appendBare_vitals _ _ _)

/-- One millisecond leaves the counters within their ranges: at its last value each is left to its wrap (log 6). -/
theorem State.tick_countersSound {s : State} (h : s.countersSound) : s.tick.countersSound := by
  obtain ⟨hcycle, hms, htimer⟩ := h
  rw [State.tick_eq]
  refine ⟨?_, ?_, fun n hn => ?_⟩
  · dsimp only
    split <;> omega
  · dsimp only
    split <;> omega
  · obtain ⟨m, hm, rfl⟩ := Option.map_eq_some_iff.mp hn
    have hrange := htimer m hm
    split <;> omega

theorem KeepsVitals.tick (s : State) : KeepsVitals s s.tick := by
  refine ⟨fun h => ?_, State.tick_countersSound⟩
  rw [State.tick_eq]
  exact SessionUnit.ticked_leased h

theorem KeepsVitals.idle (s : State) : KeepsVitals s s.idle := by
  unfold State.idle
  repeat' split
  · exact .same rfl
  · exact .tick s
  · exact .same rfl
  · exact .same rfl

/-! ### Every command -/

theorem exec_keepsVitals {c : Instr} {s t : State} (h : exec c s = .next t) : KeepsVitals s t := by
  cases c with
  | coldReset cause rate1 rate0 =>
    rw [exec_coldReset] at h
    cases h
    exact ⟨fun _ => SessionUnit.leased_of_free rfl rfl, fun _ => ⟨Nat.zero_le _, Nat.zero_le _, nofun⟩⟩
  | resetAsserted cause => cases h; exact .same rfl
  | inputLineChange p active | panelLineChange line active =>
    cases h
    refine .same ?_
    dsimp only
    repeat' split
    all_goals simp
  | filteredTransition p | panelFilteredTransition line =>
    cases h
    refine .whenRunning (.same ?_)
    dsimp only
    repeat' split
    all_goals simp
  | onDelayExpiry p | offDelayExpiry p | accumulationExpiry p | forgetTimerExpiry p | restartRaise p
  | realertExpiry p | chatterWindowExpiry p | restoreTimerExpiry p | panelPressBegin | retransmissionExpiry l
  | interByteTimeout l =>
    cases h
    refine .whenRunning (.same ?_)
    repeat' split
    all_goals simp
  | ackWalkEvent src | resetGroupExamine src | resetMemberEvent src | firstOutClearing src =>
    cases h
    refine .whenRunning (.same ?_)
    simp only [State.ackWalk, State.examineGroup, State.resetMember, State.clearingStage]
    repeat' split
    all_goals simp
  | patternCycleWrap =>
    cases h
    refine .whenRunning ?_
    split
    · exact ⟨id, fun ⟨_, hms, htimer⟩ => ⟨Nat.zero_le _, hms, htimer⟩⟩
    · exact .same rfl
  | dayRollover =>
    cases h
    refine .whenRunning ?_
    split
    · exact .setTime s (Nat.zero_le _)
    · exact .same rfl
  | lampTestHostExpiry =>
    cases h
    refine .whenRunning ?_
    split
    · exact .congr (.setHostTimer s (timer := none) nofun) (by rw [State.finish_vitals, State.lampSources_vitals])
    · exact .same rfl
  | leaseExpiry =>
    cases h
    refine .whenRunning ?_
    split
    · exact .congr (.free s) (by simp)
    · exact .same rfl
  | byteArrival l data stopGood =>
    cases h
    refine .whenRunning ?_
    dsimp only
    repeat' split
    · exact .trans (.same (s.setReceiver_vitals l _)) (.takeFrame _ l _)
    · exact .same (by simp)
    · exact .same (by simp)
  | transmitEnd l =>
    cases h
    refine .whenRunning ?_
    dsimp only
    split
    · exact .same rfl
    · refine .congr ?_ (State.startTx_vitals _ l)
      split
      · exact .trans (.same (s.freeLine_vitals l)) (.warmRestart _)
      · exact .same (s.freeLine_vitals l)
  | confirm l body =>
    cases h
    refine .whenRunning ?_
    split
    · exact .same rfl
    · exact .confirmFrame s l body
  | unknownKindRequest l =>
    cases h
    refine .whenRunning ?_
    split
    · split
      · exact .congr (.renewLease s l) (by simp)
      · exact .same rfl
    · exact .same rfl
  | hello l => cases h; exact .serve fun _ u _ => .openSession u l
  | bye l => cases h; exact .serve fun _ u _ => .closeSession u l _
  | claim l => cases h; exact .serve fun _ _ ho => .claimRequest (ho (by decide))
  | release l => cases h; exact .serve fun _ u _ => .releaseRequest u l
  | restart l => cases h; exact .serve fun _ u _ => .restartRequest u l
  | lampTest l => cases h; exact .serve fun _ u _ => .lampTestRequest u l _
  | setTime l => cases h; exact .serve_setTime (parse := fun q => timeArg q.body) fun _ _ => timeArg_ms
  | defineGroup l => cases h; exact .serve_same fun _ u => u.defineGroupRequest_vitals l _
  | undefineGroup l => cases h; exact .serve_same fun _ u => u.undefineGroupRequest_vitals l _
  | definePoint l => cases h; exact .serve_same fun _ u => u.definePointRequest_vitals l _
  | undefinePoint l => cases h; exact .serve_same fun _ u => u.undefinePointRequest_vitals l _
  | setServiceOut l => cases h; exact .serve_same fun _ u => u.serviceOutRequest_vitals l _
  | setServiceIn l => cases h; exact .serve_same fun _ u => u.serviceInRequest_vitals l _
  | restore l => cases h; exact .serve_same fun _ u => u.restoreRequest_vitals l _
  | ack l | reset l => cases h; exact .serve_same fun _ u => u.operatorRequest_vitals _ l _ _ _
  | silence l => cases h; exact .serve_same fun _ u => u.silence_vitals _
  | subscribe l => cases h; exact .serve_same fun _ u => u.subscribeRequest_vitals l _
  | unsubscribe l => cases h; exact .serve_same fun _ u => u.unsubscribeRequest_vitals l
  | readStatus l => cases h; exact .serve_same fun _ _ => rfl
  | readPoint l | readGroup l | readList l =>
    cases h
    exact .serve_same fun _ _ => by split <;> rfl
  | readJournal l =>
    cases h
    refine .serve_same fun _ u => ?_
    generalize inRange _ _ _ = most, u.journalStart _ = start
    cases most <;> cases start <;> rfl

/-- Settles O8: every command keeps both invariants, and so does what the part does by itself. -/
theorem authorityStaysLeased : Obligations.AuthorityStaysLeased := by
  intro s t h
  unfold step at h
  split at h
  · next i rest _ =>
    obtain ⟨hauthority, hcounters⟩ := exec_keepsVitals h
    exact ⟨hauthority, hcounters⟩
  · cases h
    obtain ⟨hauthority, hcounters⟩ := KeepsVitals.idle s
    exact ⟨hauthority, hcounters⟩

end Sys2Proof.Machine
end

section
/-! SUPPORT. The queue of commands and the choice counter (log 3, 22): both are the model's own, and the operations of the part
leave them alone. -/

namespace Sys2Proof.Machine

/-- The queue of commands and the choice counter: all of the state that is the model's and not the part's (log 3, 22). -/
def State.queue (s : State) : List Instr × Nat := (s.pending, s.choices)

theorem State.queue_congr {s t : State} (hp : t.pending = s.pending) (hc : t.choices = s.choices) : t.queue = s.queue := by
  rw [State.queue, State.queue, hp, hc]

/-! ### The updates of the tables -/

@[simp] theorem State.modifyPoint_queue (s : State) (p : Point) (f : PointState → PointState) :
    (s.modifyPoint p f).queue = s.queue := rfl

@[simp] theorem State.modifyGroup_queue (s : State) (g : Group) (f : GroupState → GroupState) :
    (s.modifyGroup g f).queue = s.queue := rfl

@[simp] theorem State.modifySession_queue (s : State) (f : SessionUnit → SessionUnit) :
    (s.modifySession f).queue = s.queue := rfl

@[simp] theorem State.modifyOperator_queue (s : State) (f : OperatorUnit → OperatorUnit) :
    (s.modifyOperator f).queue = s.queue := rfl

@[simp] theorem State.modifyOutput_queue (s : State) (f : OutputUnit → OutputUnit) : (s.modifyOutput f).queue = s.queue := rfl

@[simp] theorem State.modifyEntry_queue (s : State) (p : Point) (f : Entry → Entry) : (s.modifyEntry p f).queue = s.queue := rfl

@[simp] theorem State.advanceGeneration_queue (s : State) : s.advanceGeneration.queue = s.queue := rfl

@[simp] theorem State.setPhase_queue (s : State) (p : Point) (ph : Phase) (timer : Option Nat) :
    (s.setPhase p ph timer).queue = s.queue := rfl

@[simp] theorem State.tell_queue (s : State) (p : Point) (ph : Phase) (mark : Bool) : (s.tell p ph mark).queue = s.queue := rfl

@[simp] theorem State.setChain_queue (s : State) (l : Link) (c : Chain) : (s.setChain l c).queue = s.queue :=
  State.queue_congr (by simp) (by simp)

@[simp] theorem State.modifyDelivery_queue (s : State) (l : Link) (f : Delivery → Delivery) :
    (s.modifyDelivery l f).queue = s.queue := s.setChain_queue l _

@[simp] theorem State.setReceiver_queue (s : State) (l : Link) (x : Receiver) : (s.setReceiver l x).queue = s.queue :=
  s.setChain_queue l _

@[simp] theorem State.freeLine_queue (s : State) (l : Link) : (s.freeLine l).queue = s.queue := s.setChain_queue l _

/-! ### The shared operations -/

@[simp] theorem State.append_queue (s : State) (k : RecordKind) (src : Source) (p : Option Point) (g : Option Group) :
    (s.append k src p g).queue = s.queue := State.queue_congr (by simp) (by simp)

@[simp] theorem State.appendPoint_queue (s : State) (k : RecordKind) (src : Source) (p : Point) :
    (s.appendPoint k src p).queue = s.queue := s.append_queue k src _ _

@[simp] theorem State.appendBare_queue (s : State) (k : RecordKind) (src : Source) : (s.appendBare k src).queue = s.queue :=
  s.append_queue k src _ _

@[simp] theorem State.startTx_queue (s : State) (l : Link) : (s.startTx l).queue = s.queue :=
  State.queue_congr (by simp) (by simp)

@[simp] theorem State.finish_queue (s : State) : s.finish.queue = s.queue := State.queue_congr (by simp) (by simp)

@[simp] theorem State.renewLease_queue (s : State) (l : Link) : (s.renewLease l).queue = s.queue :=
  State.queue_congr (by simp) (by simp)

@[simp] theorem State.silence_queue (s : State) (src : Source) : (s.silence src).queue = s.queue := by
  rw [State.silence_frame]; rfl

@[simp] theorem State.lampSources_queue (s : State) (src : Source) (f : OutputUnit → OutputUnit) :
    (s.lampSources src f).queue = s.queue := by
  rw [State.lampSources_frame]; rfl

@[simp] theorem State.advanceAction_queue (s : State) (src : Source) (a : Action) (pos : Option WalkPos) :
    (s.advanceAction src a pos).queue = s.queue := State.queue_congr (by simp) (by simp)

/-! ### The sequence engine and the chatter unit -/

@[simp] theorem State.move_queue (s : State) (p : Point) (ph : Phase) (timer : Option Nat) (kind : RecordKind) (src : Source)
    (upd : Entry → Entry) : (s.move p ph timer kind src upd).queue = s.queue := by
  rw [State.move_frame]; rfl

@[simp] theorem State.openEpisode_queue (s : State) (p : Point) (d : PointDef) : (s.openEpisode p d).queue = s.queue := by
  rw [(s.openEpisode_opens p d).frame]; rfl

@[simp] theorem State.clearFirstOut_queue (s : State) (g : Group) (src : Source) :
    (s.clearFirstOut g src).1.queue = s.queue := by
  unfold State.clearFirstOut
  split <;> simp

@[simp] theorem State.reraise_queue (s : State) (p : Point) : (s.reraise p).queue = s.queue := by
  unfold State.reraise
  split <;> simp

@[simp] theorem State.engineRaise_queue (s : State) (p : Point) (d : PointDef) : (s.engineRaise p d).queue = s.queue := by
  unfold State.engineRaise
  split <;> simp

@[simp] theorem State.engineClear_queue (s : State) (p : Point) : (s.engineClear p).queue = s.queue := by
  unfold State.engineClear
  split <;> simp

@[simp] theorem State.ackPoint_queue (s : State) (p : Point) (src : Source) : (s.ackPoint p src).1.queue = s.queue := by
  unfold State.ackPoint
  split <;> simp

@[simp] theorem State.resetPoint_queue (s : State) (p : Point) (src : Source) : (s.resetPoint p src).1.queue = s.queue := by
  unfold State.resetPoint
  split <;> simp

@[simp] theorem State.raise_queue (s : State) (p : Point) (d : PointDef) : (s.raise p d).queue = s.queue := by
  unfold State.raise State.chatterRaise State.suppress
  repeat' split
  all_goals simp

@[simp] theorem State.clear_queue (s : State) (p : Point) (d : PointDef) : (s.clear p d).queue = s.queue := by
  unfold State.clear State.chatterClear
  repeat' split
  all_goals simp

@[simp] theorem State.restorePoint_queue (s : State) (p : Point) (cause : RestoreCause) (src : Source) :
    (s.restorePoint p cause src).queue = s.queue := by
  simp [State.restorePoint]

/-! ### Qualification -/

@[simp] theorem State.becomeAbnormal_queue (s : State) (p : Point) (d : PointDef) :
    (s.becomeAbnormal p d).queue = s.queue := by
  simp [State.becomeAbnormal]

@[simp] theorem State.becomeNormal_queue (s : State) (p : Point) (d : PointDef) : (s.becomeNormal p d).queue = s.queue := by
  simp [State.becomeNormal]

@[simp] theorem State.beginAbnormal_queue (s : State) (p : Point) (d : PointDef) :
    (s.beginAbnormal p d).queue = s.queue := by
  unfold State.beginAbnormal
  split <;> simp

theorem State.takeAbnormal_queue (s : State) (p : Point) (d : PointDef) : (s.takeAbnormal p d).queue = s.queue := by
  unfold State.takeAbnormal
  split <;> simp

theorem State.takeNormal_queue (s : State) (p : Point) (d : PointDef) : (s.takeNormal p d).queue = s.queue := by
  unfold State.takeNormal
  repeat' split
  all_goals simp

@[simp] theorem State.qualify_queue (s : State) (p : Point) (d : PointDef) (level : Level) :
    (s.qualify p d level).queue = s.queue := by
  cases level
  · exact s.takeNormal_queue p d
  · exact s.takeAbnormal_queue p d

/-! ### The walks, the panel and the links -/

@[simp] theorem State.ackWalk_queue (s : State) (src : Source) (a : Action) (p : Point) :
    (s.ackWalk src a p).queue = s.queue := by
  unfold State.ackWalk
  split <;> simp

@[simp] theorem State.examineGroup_queue (s : State) (src : Source) (a : Action) (g : Group) :
    (s.examineGroup src a g).queue = s.queue := by
  unfold State.examineGroup
  split <;> simp

@[simp] theorem State.resetMember_queue (s : State) (src : Source) (a : Action) (g : Group) (p : Point) :
    (s.resetMember src a g p).queue = s.queue := by
  unfold State.resetMember
  split <;> simp

@[simp] theorem State.clearingStage_queue (s : State) (src : Source) (a : Action) (g : Group) :
    (s.clearingStage src a g).queue = s.queue := by
  unfold State.clearingStage
  split <;> simp

@[simp] theorem State.beginPress_queue (s : State) (x : Press) : (s.beginPress x).queue = s.queue := by
  cases x <;> simp [State.beginPress, State.beginAction]

@[simp] theorem State.takePanelTransition_queue (s : State) (line : PanelLine) (active : Bool) :
    (s.takePanelTransition line active).queue = s.queue := by
  unfold State.takePanelTransition State.takePress
  repeat' split
  all_goals simp

@[simp] theorem State.confirmFrame_queue (s : State) (l : Link) (body : List Byte) :
    (s.confirmFrame l body).queue = s.queue := by
  unfold State.confirmFrame
  dsimp only
  repeat' split
  all_goals simp

@[simp] theorem State.takeFrame_queue (s : State) (l : Link) (q : Request) : (s.takeFrame l q).queue = s.queue := by
  unfold State.takeFrame
  repeat' split
  all_goals simp

@[simp] theorem State.retransmissionExpiry_queue (s : State) (l : Link) : (s.retransmissionExpiry l).queue = s.queue := by
  unfold State.retransmissionExpiry
  split <;> simp

/-- A warm restart acts on the blocks of the part alone (11 R186). -/
@[simp] theorem State.warmRestart_queue (s : State) : s.warmRestart.queue = s.queue := by
  rw [State.warmRestart_eq, State.appendBare_queue]; rfl

/-- A cold reset sets the part's own values; the commands still to come are its surroundings' (11 R187; log 22). -/
theorem State.cold_queue (s : State) (source : ResetCause) (rate : LineRate) : (s.cold source rate).queue = s.queue := rfl

/-! ### The requests -/

@[simp] theorem State.conclude_queue (s : State) (l : Link) (q : Request) (a : Answer) :
    (s.conclude l q a).queue = s.queue := by
  rw [State.conclude_frame]; rfl

@[simp] theorem State.settle_queue (s : State) (l : Link) (k : ReqKind) (a : Answer) : (s.settle l k a).queue = s.queue := by
  rw [State.settle_frame]; rfl

theorem State.renewFor_queue (s : State) (l : Link) (k : ReqKind) : (s.renewFor l k).queue = s.queue := by
  rw [State.renewFor_frame]; rfl

/-- A refusal by the checks changes nothing, and else the owner alone acts (10 R174). -/
theorem State.handle_queue (s : State) (l : Link) (k : ReqKind) (q : Request) (act : Request → State → State × Answer)
    (h : ∀ u, (act q u).1.queue = u.queue) : (s.handle l k q act).1.queue = s.queue := by
  unfold State.handle
  split
  · rfl
  · exact h s

/-- An event that leaves the queue alone while the part runs leaves it alone. -/
theorem State.whenRunning_queue (s : State) (f : State → State) (h : (f s).queue = s.queue) :
    (s.whenRunning f).queue = s.queue := by
  unfold State.whenRunning
  split
  · rfl
  · exact h

/-- A request whose owner leaves the queue alone leaves it alone. -/
theorem State.serve_queue (s : State) (l : Link) (k : ReqKind) (sel : Request → Bool)
    (act : Request → State → State × Answer) (h : ∀ q u, (act q u).1.queue = u.queue) :
    (s.serve l k sel act).queue = s.queue := by
  refine s.whenRunning_queue _ ?_
  split
  · next q _ =>
    dsimp only
    rw [State.settle_queue, State.conclude_queue, State.handle_queue _ _ _ _ _ (h q), State.renewFor_queue]
  · rfl

theorem State.closeSession_queue (s : State) (l : Link) (act : SessionAction) :
    (s.closeSession l act).queue = s.queue := by
  rw [State.closeSession_frame]; rfl

theorem State.openSession_queue (s : State) (l : Link) : (s.openSession l).queue = s.queue := by
  rw [State.openSession_frame]; rfl

theorem State.claimRequest_queue (s : State) (l : Link) : (s.claimRequest l).1.queue = s.queue := by
  unfold State.claimRequest
  repeat' split
  all_goals simp

theorem State.releaseRequest_queue (s : State) (l : Link) : (s.releaseRequest l).1.queue = s.queue := by
  unfold State.releaseRequest
  split <;> simp

theorem State.restartRequest_queue (s : State) (l : Link) : (s.restartRequest l).1.queue = s.queue := by
  unfold State.restartRequest
  split <;> simp

theorem State.defineGroupRequest_queue (s : State) (l : Link) (arg : Option (Group × GroupDef)) :
    (s.defineGroupRequest l arg).1.queue = s.queue := by
  unfold State.defineGroupRequest
  repeat' split
  all_goals simp [State.accepted, State.turnedAway, State.putGroup]

theorem State.undefineGroupRequest_queue (s : State) (l : Link) (arg : Option Group) :
    (s.undefineGroupRequest l arg).1.queue = s.queue := by
  unfold State.undefineGroupRequest
  repeat' split
  all_goals simp [State.accepted, State.turnedAway, State.removeGroup]

theorem State.definePointRequest_queue (s : State) (l : Link) (arg : Option (Point × PointDef)) :
    (s.definePointRequest l arg).1.queue = s.queue := by
  unfold State.definePointRequest
  repeat' split
  all_goals simp [State.accepted, State.turnedAway, State.putPoint]

theorem State.undefinePointRequest_queue (s : State) (l : Link) (arg : Option Point) :
    (s.undefinePointRequest l arg).1.queue = s.queue := by
  unfold State.undefinePointRequest
  repeat' split
  all_goals simp [State.accepted, State.turnedAway, State.removePoint]

theorem State.serviceOutRequest_queue (s : State) (l : Link) (arg : Option Point) :
    (s.serviceOutRequest l arg).1.queue = s.queue := by
  unfold State.serviceOutRequest
  repeat' split
  all_goals simp [State.accepted, State.turnedAway, State.takeOut]

@[simp] theorem State.putIn_queue (s : State) (l : Link) (p : Point) (d : PointDef) : (s.putIn l p d).queue = s.queue := by
  unfold State.putIn
  dsimp only
  split <;> simp

theorem State.serviceInRequest_queue (s : State) (l : Link) (arg : Option Point) :
    (s.serviceInRequest l arg).1.queue = s.queue := by
  unfold State.serviceInRequest
  repeat' split
  all_goals simp [State.accepted, State.turnedAway]

theorem State.restoreRequest_queue (s : State) (l : Link) (arg : Option Point) :
    (s.restoreRequest l arg).1.queue = s.queue := by
  unfold State.restoreRequest State.restoreByRequest
  repeat' split
  all_goals simp

theorem State.setTimeRequest_queue (s : State) (l : Link) (arg : Option Stamp) :
    (s.setTimeRequest l arg).1.queue = s.queue := by
  cases arg with
  | none => rfl
  | some x => exact State.appendBare_queue { s with time := x } _ _

theorem State.operatorRequest_queue (s : State) (kind : ActionKind) (l : Link) (tag : Byte) (zeros : List Byte)
    (scope : Option Scope) : (s.operatorRequest kind l tag zeros scope).1.queue = s.queue := by
  unfold State.operatorRequest
  repeat' split
  all_goals rfl

theorem State.lampTestRequest_queue (s : State) (l : Link) (seconds : Nat) :
    (s.lampTestRequest l seconds).1.queue = s.queue := by
  unfold State.lampTestRequest
  split <;> simp

theorem State.subscribeRequest_queue (s : State) (l : Link) (start : Option Seq) :
    (s.subscribeRequest l start).1.queue = s.queue := by
  unfold State.subscribeRequest
  split <;> simp

theorem State.unsubscribeRequest_queue (s : State) (l : Link) : (s.unsubscribeRequest l).1.queue = s.queue := by
  unfold State.unsubscribeRequest
  dsimp only
  split <;> simp

/-- The body of a SET TIME stays a variable here, so that no number of it is ever computed. -/
theorem State.serve_setTime_queue (s : State) (l : Link) (parse : Request → Option Stamp) :
    (s.serve l .setTime anyRequest fun q u => u.setTimeRequest l (parse q)).queue = s.queue :=
  s.serve_queue _ _ _ _ fun q u => u.setTimeRequest_queue l (parse q)

end Sys2Proof.Machine
end

section
/-! SUPPORT. Every command answers a next state, and leaves the queue and the choice counter alone (log 1, 3, 22, 29): the
statement. -/

namespace Sys2Proof.Machine

/-- No command faults and none is refused by the model: each arm of the dispatch answers a next state (log 29). -/
theorem exec_answersNext (c : Instr) (s : State) : ∃ t, exec c s = .next t := by
  cases c <;> exact ⟨_, rfl⟩

/-- What a command's event does, it does to the part: the queue and the choice counter stand (log 3, 22). -/
theorem exec_queue {c : Instr} {s t : State} (h : exec c s = .next t) : t.queue = s.queue := by
  cases c with
  | coldReset cause rate1 rate0 =>
    cases h
    split
    · rw [State.appendBare_queue, State.cold_queue]
    · exact s.cold_queue _ _
  | resetAsserted cause => cases h; rfl
  | inputLineChange p active | panelLineChange line active =>
    cases h
    dsimp only
    repeat' split
    all_goals simp
  | dayRollover =>
    cases h
    refine s.whenRunning_queue _ ?_
    split <;> rfl
  | onDelayExpiry p | offDelayExpiry p | accumulationExpiry p | forgetTimerExpiry p | realertExpiry p | chatterWindowExpiry p
  | restoreTimerExpiry p | patternCycleWrap | panelPressBegin | lampTestHostExpiry | leaseExpiry | retransmissionExpiry l
  | interByteTimeout l | confirm l body | panelFilteredTransition line =>
    cases h
    refine s.whenRunning_queue _ ?_
    split <;> simp
  | restartRaise p =>
    cases h
    refine s.whenRunning_queue _ ?_
    split
    · split <;> simp
    · rfl
  | filteredTransition p | byteArrival l data stopGood | transmitEnd l | unknownKindRequest l =>
    cases h
    refine s.whenRunning_queue _ ?_
    dsimp only
    repeat' split
    all_goals simp
  | ackWalkEvent src | resetGroupExamine src | resetMemberEvent src | firstOutClearing src =>
    cases h
    refine s.whenRunning_queue _ ?_
    split
    · rfl
    · split <;> simp
  | hello l => cases h; exact s.serve_queue _ _ _ _ fun _ u => u.openSession_queue l
  | bye l => cases h; exact s.serve_queue _ _ _ _ fun _ u => u.closeSession_queue l _
  | claim l => cases h; exact s.serve_queue _ _ _ _ fun _ u => u.claimRequest_queue l
  | release l => cases h; exact s.serve_queue _ _ _ _ fun _ u => u.releaseRequest_queue l
  | restart l => cases h; exact s.serve_queue _ _ _ _ fun _ u => u.restartRequest_queue l
  | defineGroup l => cases h; exact s.serve_queue _ _ _ _ fun _ u => u.defineGroupRequest_queue l _
  | undefineGroup l => cases h; exact s.serve_queue _ _ _ _ fun _ u => u.undefineGroupRequest_queue l _
  | definePoint l => cases h; exact s.serve_queue _ _ _ _ fun _ u => u.definePointRequest_queue l _
  | undefinePoint l => cases h; exact s.serve_queue _ _ _ _ fun _ u => u.undefinePointRequest_queue l _
  | setServiceOut l => cases h; exact s.serve_queue _ _ _ _ fun _ u => u.serviceOutRequest_queue l _
  | setServiceIn l => cases h; exact s.serve_queue _ _ _ _ fun _ u => u.serviceInRequest_queue l _
  | restore l => cases h; exact s.serve_queue _ _ _ _ fun _ u => u.restoreRequest_queue l _
  | setTime l => cases h; exact s.serve_setTime_queue l fun q => timeArg q.body
  | ack l | reset l => cases h; exact s.serve_queue _ _ _ _ fun _ u => u.operatorRequest_queue _ l _ _ _
  | silence l => cases h; exact s.serve_queue _ _ _ _ fun _ u => u.silence_queue _
  | lampTest l => cases h; exact s.serve_queue _ _ _ _ fun _ u => u.lampTestRequest_queue l _
  | subscribe l => cases h; exact s.serve_queue _ _ _ _ fun _ u => u.subscribeRequest_queue l _
  | unsubscribe l => cases h; exact s.serve_queue _ _ _ _ fun _ u => u.unsubscribeRequest_queue l
  | readStatus l => cases h; exact s.serve_queue _ _ _ _ fun _ _ => rfl
  | readPoint l | readGroup l | readList l =>
    cases h
    exact s.serve_queue _ _ _ _ fun _ _ => by split <;> rfl
  | readJournal l =>
    cases h
    refine s.serve_queue _ _ _ _ fun _ u => ?_
    generalize inRange _ _ _ = most, u.journalStart _ = start
    cases most <;> cases start <;> rfl

/-- Settles O2: every arm of the dispatch answers a next state, and none of their operations touches the queue or the counter. -/
theorem commandsKeepTheQueue : Obligations.CommandsKeepTheQueue := by
  intro c s
  obtain ⟨t, ht⟩ := exec_answersNext c s
  obtain ⟨hpending, hchoices⟩ := Prod.mk.inj (exec_queue ht)
  exact ⟨t, ht, hpending, hchoices⟩

end Sys2Proof.Machine
end
